-- ==== Sys2Proof/Word.lean ====
section
/-! DEFINITION. The two word types of the core: bytes and 16-bit addresses (R7, R9). -/

namespace Sys2Proof

/-- A data byte, `u8` (R7, R9). Its arithmetic wraps mod 2^8 (R11, R21). -/
abbrev Byte := BitVec 8

/-- A 16-bit address, `u16` (R7, R9). Its arithmetic wraps mod 2^16 (R11, R21). -/
abbrev Addr := BitVec 16

end Sys2Proof
end

