-- ==== Sys2Proof/Machine/Bits.lean ====
section
/-! DEFINITION. The bit-field, extension and byte-order helpers of R9 and R11. -/

namespace Sys2Proof.Machine

open Sys2Proof

/-- `hi(w) = w[15:8]` (R11). -/
def hi (w : Addr) : Byte := w.extractLsb' 8 8

/-- `lo(w) = w[7:0]` (R11). -/
def lo (w : Addr) : Byte := w.extractLsb' 0 8

/-- `w16(h, l) = h * 256 + l`, high byte first (R11). -/
def w16 (h l : Byte) : Addr := h ++ l

/-- `zext_16(b) = b` (R11). -/
def zext16 (b : Byte) : Addr := b.setWidth 16

/-- `sext_16(b)`: `b` if `b < 0x80`, else `b + 0xFF00` (R11). -/
def sext16 (b : Byte) : Addr :=
  if b < 0x80#8 then zext16 b else zext16 b + 0xFF00#16

/-- `samepage(a, b)`: the two addresses share their high byte (R11, R17). -/
def samePage (a b : Addr) : Bool := hi a == hi b

/-- `v[i]`, bit `i` of a byte, bit 0 the least significant (R9). -/
def bit (v : Byte) (i : Nat) : Bool := v.getLsbD i

/-- A flag as the byte 0 or 1 (R10: flags are written 0/1). -/
def flagByte (b : Bool) : Byte := if b then 1#8 else 0#8

end Sys2Proof.Machine
end

