-- ==== Sys2Proof/Syntax.lean ====
section
/-! DEFINITION. The syntax of the instruction set: the 56 mnemonics (R2, R99), the thirteen addressing modes (R92)
and the instructions, one constructor per row of spec/opcode_table.json. -/

namespace Sys2Proof

/-- The 56 mnemonics of the decode table (R99). -/
inductive Mnemonic where
  | lda | ldx | ldy | sta | stx | sty | tax | tay | txa | tya | tsx | txs
  | adc | sbc | and | ora | eor | bit | cmp | cpx | cpy | inc | dec | inx | iny | dex | dey
  | asl | lsr | rol | ror
  | pha | php | pla | plp
  | bcc | bcs | beq | bne | bmi | bpl | bvc | bvs | jmp | jsr | rts
  | clc | cld | cli | clv | sec | sed | sei | nop | brk | rti
  deriving DecidableEq, Repr

/-- The thirteen addressing modes, by the spec's tags (R92). -/
inductive Mode where
  | imp | acc | imm | zp | zpx | zpy | abs | abx | aby | ind | izx | izy | rel
  deriving DecidableEq, Repr

/-- An instruction: an opcode with its operand. An 8-bit operand is the byte `b1`; a 16-bit operand is
`w16 b2 b1` (R92). The modes' operands: `v` an immediate value, `zp` a zero-page address or pointer, `addr`, `base`,
`target`, `ptr` a 16-bit address, `offset` a signed branch offset. -/
inductive Instr where
  -- Loads, stores and transfers (R201 to R212)
  | ldaIzx (zp : Byte)
  | ldaZp (zp : Byte)
  | ldaImm (v : Byte)
  | ldaAbs (addr : Addr)
  | ldaIzy (zp : Byte)
  | ldaZpx (zp : Byte)
  | ldaAby (base : Addr)
  | ldaAbx (base : Addr)
  | ldxImm (v : Byte)
  | ldxZp (zp : Byte)
  | ldxAbs (addr : Addr)
  | ldxZpy (zp : Byte)
  | ldxAby (base : Addr)
  | ldyImm (v : Byte)
  | ldyZp (zp : Byte)
  | ldyAbs (addr : Addr)
  | ldyZpx (zp : Byte)
  | ldyAbx (base : Addr)
  | staIzx (zp : Byte)
  | staZp (zp : Byte)
  | staAbs (addr : Addr)
  | staIzy (zp : Byte)
  | staZpx (zp : Byte)
  | staAby (base : Addr)
  | staAbx (base : Addr)
  | stxZp (zp : Byte)
  | stxAbs (addr : Addr)
  | stxZpy (zp : Byte)
  | styZp (zp : Byte)
  | styAbs (addr : Addr)
  | styZpx (zp : Byte)
  | tax
  | tay
  | txa
  | tya
  | tsx
  | txs
  -- Arithmetic, logic, compare, increment and decrement (R222 to R236)
  | adcIzx (zp : Byte)
  | adcZp (zp : Byte)
  | adcImm (v : Byte)
  | adcAbs (addr : Addr)
  | adcIzy (zp : Byte)
  | adcZpx (zp : Byte)
  | adcAby (base : Addr)
  | adcAbx (base : Addr)
  | sbcIzx (zp : Byte)
  | sbcZp (zp : Byte)
  | sbcImm (v : Byte)
  | sbcAbs (addr : Addr)
  | sbcIzy (zp : Byte)
  | sbcZpx (zp : Byte)
  | sbcAby (base : Addr)
  | sbcAbx (base : Addr)
  | andIzx (zp : Byte)
  | andZp (zp : Byte)
  | andImm (v : Byte)
  | andAbs (addr : Addr)
  | andIzy (zp : Byte)
  | andZpx (zp : Byte)
  | andAby (base : Addr)
  | andAbx (base : Addr)
  | oraIzx (zp : Byte)
  | oraZp (zp : Byte)
  | oraImm (v : Byte)
  | oraAbs (addr : Addr)
  | oraIzy (zp : Byte)
  | oraZpx (zp : Byte)
  | oraAby (base : Addr)
  | oraAbx (base : Addr)
  | eorIzx (zp : Byte)
  | eorZp (zp : Byte)
  | eorImm (v : Byte)
  | eorAbs (addr : Addr)
  | eorIzy (zp : Byte)
  | eorZpx (zp : Byte)
  | eorAby (base : Addr)
  | eorAbx (base : Addr)
  | bitZp (zp : Byte)
  | bitAbs (addr : Addr)
  | cmpIzx (zp : Byte)
  | cmpZp (zp : Byte)
  | cmpImm (v : Byte)
  | cmpAbs (addr : Addr)
  | cmpIzy (zp : Byte)
  | cmpZpx (zp : Byte)
  | cmpAby (base : Addr)
  | cmpAbx (base : Addr)
  | cpxImm (v : Byte)
  | cpxZp (zp : Byte)
  | cpxAbs (addr : Addr)
  | cpyImm (v : Byte)
  | cpyZp (zp : Byte)
  | cpyAbs (addr : Addr)
  | incZp (zp : Byte)
  | incAbs (addr : Addr)
  | incZpx (zp : Byte)
  | incAbx (base : Addr)
  | decZp (zp : Byte)
  | decAbs (addr : Addr)
  | decZpx (zp : Byte)
  | decAbx (base : Addr)
  | inx
  | iny
  | dex
  | dey
  -- Shifts and rotates (R241 to R244)
  | aslZp (zp : Byte)
  | aslAcc
  | aslAbs (addr : Addr)
  | aslZpx (zp : Byte)
  | aslAbx (base : Addr)
  | lsrZp (zp : Byte)
  | lsrAcc
  | lsrAbs (addr : Addr)
  | lsrZpx (zp : Byte)
  | lsrAbx (base : Addr)
  | rolZp (zp : Byte)
  | rolAcc
  | rolAbs (addr : Addr)
  | rolZpx (zp : Byte)
  | rolAbx (base : Addr)
  | rorZp (zp : Byte)
  | rorAcc
  | rorAbs (addr : Addr)
  | rorZpx (zp : Byte)
  | rorAbx (base : Addr)
  -- Stack (R251 to R254)
  | pha
  | php
  | pla
  | plp
  -- Branches, jumps, subroutines (R261 to R271)
  | bcc (offset : Byte)
  | bcs (offset : Byte)
  | beq (offset : Byte)
  | bne (offset : Byte)
  | bmi (offset : Byte)
  | bpl (offset : Byte)
  | bvc (offset : Byte)
  | bvs (offset : Byte)
  | jmpAbs (target : Addr)
  | jmpInd (ptr : Addr)
  | jsr (target : Addr)
  | rts
  -- Flags, NOP, BRK, RTI (R281 to R290)
  | clc
  | cld
  | cli
  | clv
  | sec
  | sed
  | sei
  | nop
  | brk
  | rti
  deriving DecidableEq, Repr

end Sys2Proof
end

