-- ==== Sys2Proof/Decode.lean ====
section
/-! DEFINITION. The decoder and the encoder. The decode table is the 16 by 16 opcode map of R99, row by row; the
decoder looks the opcode byte up, reads as many operand bytes as the mode says (R91, R107) and assembles them (R92).
A byte without an entry is refused by name (R104). The encoder is written from the encoding column of the family
rules and spec/opcode_table.json, so that the two check each other. -/

namespace Sys2Proof

open Sys2Proof.Machine

/-- One entry of the decode table: mnemonic, addressing mode and base cycle count (R99). -/
structure Entry where
  mnemonic : Mnemonic
  mode : Mode
  cycles : Nat
  deriving DecidableEq, Repr

/-- Row 0x of the opcode map (R99). -/
def opcodeRow0 : List (Option Entry) :=
  [some ⟨.brk, .imp, 7⟩, some ⟨.ora, .izx, 6⟩, none, none,
   none, some ⟨.ora, .zp, 3⟩, some ⟨.asl, .zp, 5⟩, none,
   some ⟨.php, .imp, 3⟩, some ⟨.ora, .imm, 2⟩, some ⟨.asl, .acc, 2⟩, none,
   none, some ⟨.ora, .abs, 4⟩, some ⟨.asl, .abs, 6⟩, none]

/-- Row 1x of the opcode map (R99). -/
def opcodeRow1 : List (Option Entry) :=
  [some ⟨.bpl, .rel, 2⟩, some ⟨.ora, .izy, 5⟩, none, none,
   none, some ⟨.ora, .zpx, 4⟩, some ⟨.asl, .zpx, 6⟩, none,
   some ⟨.clc, .imp, 2⟩, some ⟨.ora, .aby, 4⟩, none, none,
   none, some ⟨.ora, .abx, 4⟩, some ⟨.asl, .abx, 7⟩, none]

/-- Row 2x of the opcode map (R99). -/
def opcodeRow2 : List (Option Entry) :=
  [some ⟨.jsr, .abs, 6⟩, some ⟨.and, .izx, 6⟩, none, none,
   some ⟨.bit, .zp, 3⟩, some ⟨.and, .zp, 3⟩, some ⟨.rol, .zp, 5⟩, none,
   some ⟨.plp, .imp, 4⟩, some ⟨.and, .imm, 2⟩, some ⟨.rol, .acc, 2⟩, none,
   some ⟨.bit, .abs, 4⟩, some ⟨.and, .abs, 4⟩, some ⟨.rol, .abs, 6⟩, none]

/-- Row 3x of the opcode map (R99). -/
def opcodeRow3 : List (Option Entry) :=
  [some ⟨.bmi, .rel, 2⟩, some ⟨.and, .izy, 5⟩, none, none,
   none, some ⟨.and, .zpx, 4⟩, some ⟨.rol, .zpx, 6⟩, none,
   some ⟨.sec, .imp, 2⟩, some ⟨.and, .aby, 4⟩, none, none,
   none, some ⟨.and, .abx, 4⟩, some ⟨.rol, .abx, 7⟩, none]

/-- Row 4x of the opcode map (R99). -/
def opcodeRow4 : List (Option Entry) :=
  [some ⟨.rti, .imp, 6⟩, some ⟨.eor, .izx, 6⟩, none, none,
   none, some ⟨.eor, .zp, 3⟩, some ⟨.lsr, .zp, 5⟩, none,
   some ⟨.pha, .imp, 3⟩, some ⟨.eor, .imm, 2⟩, some ⟨.lsr, .acc, 2⟩, none,
   some ⟨.jmp, .abs, 3⟩, some ⟨.eor, .abs, 4⟩, some ⟨.lsr, .abs, 6⟩, none]

/-- Row 5x of the opcode map (R99). -/
def opcodeRow5 : List (Option Entry) :=
  [some ⟨.bvc, .rel, 2⟩, some ⟨.eor, .izy, 5⟩, none, none,
   none, some ⟨.eor, .zpx, 4⟩, some ⟨.lsr, .zpx, 6⟩, none,
   some ⟨.cli, .imp, 2⟩, some ⟨.eor, .aby, 4⟩, none, none,
   none, some ⟨.eor, .abx, 4⟩, some ⟨.lsr, .abx, 7⟩, none]

/-- Row 6x of the opcode map (R99). -/
def opcodeRow6 : List (Option Entry) :=
  [some ⟨.rts, .imp, 6⟩, some ⟨.adc, .izx, 6⟩, none, none,
   none, some ⟨.adc, .zp, 3⟩, some ⟨.ror, .zp, 5⟩, none,
   some ⟨.pla, .imp, 4⟩, some ⟨.adc, .imm, 2⟩, some ⟨.ror, .acc, 2⟩, none,
   some ⟨.jmp, .ind, 5⟩, some ⟨.adc, .abs, 4⟩, some ⟨.ror, .abs, 6⟩, none]

/-- Row 7x of the opcode map (R99). -/
def opcodeRow7 : List (Option Entry) :=
  [some ⟨.bvs, .rel, 2⟩, some ⟨.adc, .izy, 5⟩, none, none,
   none, some ⟨.adc, .zpx, 4⟩, some ⟨.ror, .zpx, 6⟩, none,
   some ⟨.sei, .imp, 2⟩, some ⟨.adc, .aby, 4⟩, none, none,
   none, some ⟨.adc, .abx, 4⟩, some ⟨.ror, .abx, 7⟩, none]

/-- Row 8x of the opcode map (R99). -/
def opcodeRow8 : List (Option Entry) :=
  [none, some ⟨.sta, .izx, 6⟩, none, none,
   some ⟨.sty, .zp, 3⟩, some ⟨.sta, .zp, 3⟩, some ⟨.stx, .zp, 3⟩, none,
   some ⟨.dey, .imp, 2⟩, none, some ⟨.txa, .imp, 2⟩, none,
   some ⟨.sty, .abs, 4⟩, some ⟨.sta, .abs, 4⟩, some ⟨.stx, .abs, 4⟩, none]

/-- Row 9x of the opcode map (R99). -/
def opcodeRow9 : List (Option Entry) :=
  [some ⟨.bcc, .rel, 2⟩, some ⟨.sta, .izy, 6⟩, none, none,
   some ⟨.sty, .zpx, 4⟩, some ⟨.sta, .zpx, 4⟩, some ⟨.stx, .zpy, 4⟩, none,
   some ⟨.tya, .imp, 2⟩, some ⟨.sta, .aby, 5⟩, some ⟨.txs, .imp, 2⟩, none,
   none, some ⟨.sta, .abx, 5⟩, none, none]

/-- Row Ax of the opcode map (R99). -/
def opcodeRowA : List (Option Entry) :=
  [some ⟨.ldy, .imm, 2⟩, some ⟨.lda, .izx, 6⟩, some ⟨.ldx, .imm, 2⟩, none,
   some ⟨.ldy, .zp, 3⟩, some ⟨.lda, .zp, 3⟩, some ⟨.ldx, .zp, 3⟩, none,
   some ⟨.tay, .imp, 2⟩, some ⟨.lda, .imm, 2⟩, some ⟨.tax, .imp, 2⟩, none,
   some ⟨.ldy, .abs, 4⟩, some ⟨.lda, .abs, 4⟩, some ⟨.ldx, .abs, 4⟩, none]

/-- Row Bx of the opcode map (R99). -/
def opcodeRowB : List (Option Entry) :=
  [some ⟨.bcs, .rel, 2⟩, some ⟨.lda, .izy, 5⟩, none, none,
   some ⟨.ldy, .zpx, 4⟩, some ⟨.lda, .zpx, 4⟩, some ⟨.ldx, .zpy, 4⟩, none,
   some ⟨.clv, .imp, 2⟩, some ⟨.lda, .aby, 4⟩, some ⟨.tsx, .imp, 2⟩, none,
   some ⟨.ldy, .abx, 4⟩, some ⟨.lda, .abx, 4⟩, some ⟨.ldx, .aby, 4⟩, none]

/-- Row Cx of the opcode map (R99). -/
def opcodeRowC : List (Option Entry) :=
  [some ⟨.cpy, .imm, 2⟩, some ⟨.cmp, .izx, 6⟩, none, none,
   some ⟨.cpy, .zp, 3⟩, some ⟨.cmp, .zp, 3⟩, some ⟨.dec, .zp, 5⟩, none,
   some ⟨.iny, .imp, 2⟩, some ⟨.cmp, .imm, 2⟩, some ⟨.dex, .imp, 2⟩, none,
   some ⟨.cpy, .abs, 4⟩, some ⟨.cmp, .abs, 4⟩, some ⟨.dec, .abs, 6⟩, none]

/-- Row Dx of the opcode map (R99). -/
def opcodeRowD : List (Option Entry) :=
  [some ⟨.bne, .rel, 2⟩, some ⟨.cmp, .izy, 5⟩, none, none,
   none, some ⟨.cmp, .zpx, 4⟩, some ⟨.dec, .zpx, 6⟩, none,
   some ⟨.cld, .imp, 2⟩, some ⟨.cmp, .aby, 4⟩, none, none,
   none, some ⟨.cmp, .abx, 4⟩, some ⟨.dec, .abx, 7⟩, none]

/-- Row Ex of the opcode map (R99). -/
def opcodeRowE : List (Option Entry) :=
  [some ⟨.cpx, .imm, 2⟩, some ⟨.sbc, .izx, 6⟩, none, none,
   some ⟨.cpx, .zp, 3⟩, some ⟨.sbc, .zp, 3⟩, some ⟨.inc, .zp, 5⟩, none,
   some ⟨.inx, .imp, 2⟩, some ⟨.sbc, .imm, 2⟩, some ⟨.nop, .imp, 2⟩, none,
   some ⟨.cpx, .abs, 4⟩, some ⟨.sbc, .abs, 4⟩, some ⟨.inc, .abs, 6⟩, none]

/-- Row Fx of the opcode map (R99). -/
def opcodeRowF : List (Option Entry) :=
  [some ⟨.beq, .rel, 2⟩, some ⟨.sbc, .izy, 5⟩, none, none,
   none, some ⟨.sbc, .zpx, 4⟩, some ⟨.inc, .zpx, 6⟩, none,
   some ⟨.sed, .imp, 2⟩, some ⟨.sbc, .aby, 4⟩, none, none,
   none, some ⟨.sbc, .abx, 4⟩, some ⟨.inc, .abx, 7⟩, none]

/-- The rows 0x to Fx of the opcode map, in order (R99). -/
def opcodeMap : List (List (Option Entry)) :=
  [opcodeRow0, opcodeRow1, opcodeRow2, opcodeRow3, opcodeRow4, opcodeRow5, opcodeRow6, opcodeRow7,
   opcodeRow8, opcodeRow9, opcodeRowA, opcodeRowB, opcodeRowC, opcodeRowD, opcodeRowE, opcodeRowF]

/-- The table entry of an opcode byte, row by its high nibble and column by its low nibble; `none` for the 105 illegal
bytes (R99, R104). -/
def lookup (op : Byte) : Option Entry :=
  ((opcodeMap[op.toNat / 16]?.getD [])[op.toNat % 16]?).join

/-- The length in bytes of an instruction of a mode (R107). -/
def Mode.length : Mode → Nat
  | .imp | .acc => 1
  | .imm | .zp | .zpx | .zpy | .izx | .izy | .rel => 2
  | .abs | .abx | .aby | .ind => 3

/-- The instruction a mnemonic and a mode make with operand bytes `b1`, `b2` (R92); `none` for a combination that
the table does not hold (R106). -/
def assemble (mn : Mnemonic) (mode : Mode) (b1 b2 : Byte) : Option Instr :=
  match mn with
  | .lda =>
    match mode with
    | .izx => some (.ldaIzx b1)
    | .zp => some (.ldaZp b1)
    | .imm => some (.ldaImm b1)
    | .abs => some (.ldaAbs (w16 b2 b1))
    | .izy => some (.ldaIzy b1)
    | .zpx => some (.ldaZpx b1)
    | .aby => some (.ldaAby (w16 b2 b1))
    | .abx => some (.ldaAbx (w16 b2 b1))
    | _ => none
  | .ldx =>
    match mode with
    | .imm => some (.ldxImm b1)
    | .zp => some (.ldxZp b1)
    | .abs => some (.ldxAbs (w16 b2 b1))
    | .zpy => some (.ldxZpy b1)
    | .aby => some (.ldxAby (w16 b2 b1))
    | _ => none
  | .ldy =>
    match mode with
    | .imm => some (.ldyImm b1)
    | .zp => some (.ldyZp b1)
    | .abs => some (.ldyAbs (w16 b2 b1))
    | .zpx => some (.ldyZpx b1)
    | .abx => some (.ldyAbx (w16 b2 b1))
    | _ => none
  | .sta =>
    match mode with
    | .izx => some (.staIzx b1)
    | .zp => some (.staZp b1)
    | .abs => some (.staAbs (w16 b2 b1))
    | .izy => some (.staIzy b1)
    | .zpx => some (.staZpx b1)
    | .aby => some (.staAby (w16 b2 b1))
    | .abx => some (.staAbx (w16 b2 b1))
    | _ => none
  | .stx =>
    match mode with
    | .zp => some (.stxZp b1)
    | .abs => some (.stxAbs (w16 b2 b1))
    | .zpy => some (.stxZpy b1)
    | _ => none
  | .sty =>
    match mode with
    | .zp => some (.styZp b1)
    | .abs => some (.styAbs (w16 b2 b1))
    | .zpx => some (.styZpx b1)
    | _ => none
  | .tax =>
    match mode with
    | .imp => some .tax
    | _ => none
  | .tay =>
    match mode with
    | .imp => some .tay
    | _ => none
  | .txa =>
    match mode with
    | .imp => some .txa
    | _ => none
  | .tya =>
    match mode with
    | .imp => some .tya
    | _ => none
  | .tsx =>
    match mode with
    | .imp => some .tsx
    | _ => none
  | .txs =>
    match mode with
    | .imp => some .txs
    | _ => none
  | .adc =>
    match mode with
    | .izx => some (.adcIzx b1)
    | .zp => some (.adcZp b1)
    | .imm => some (.adcImm b1)
    | .abs => some (.adcAbs (w16 b2 b1))
    | .izy => some (.adcIzy b1)
    | .zpx => some (.adcZpx b1)
    | .aby => some (.adcAby (w16 b2 b1))
    | .abx => some (.adcAbx (w16 b2 b1))
    | _ => none
  | .sbc =>
    match mode with
    | .izx => some (.sbcIzx b1)
    | .zp => some (.sbcZp b1)
    | .imm => some (.sbcImm b1)
    | .abs => some (.sbcAbs (w16 b2 b1))
    | .izy => some (.sbcIzy b1)
    | .zpx => some (.sbcZpx b1)
    | .aby => some (.sbcAby (w16 b2 b1))
    | .abx => some (.sbcAbx (w16 b2 b1))
    | _ => none
  | .and =>
    match mode with
    | .izx => some (.andIzx b1)
    | .zp => some (.andZp b1)
    | .imm => some (.andImm b1)
    | .abs => some (.andAbs (w16 b2 b1))
    | .izy => some (.andIzy b1)
    | .zpx => some (.andZpx b1)
    | .aby => some (.andAby (w16 b2 b1))
    | .abx => some (.andAbx (w16 b2 b1))
    | _ => none
  | .ora =>
    match mode with
    | .izx => some (.oraIzx b1)
    | .zp => some (.oraZp b1)
    | .imm => some (.oraImm b1)
    | .abs => some (.oraAbs (w16 b2 b1))
    | .izy => some (.oraIzy b1)
    | .zpx => some (.oraZpx b1)
    | .aby => some (.oraAby (w16 b2 b1))
    | .abx => some (.oraAbx (w16 b2 b1))
    | _ => none
  | .eor =>
    match mode with
    | .izx => some (.eorIzx b1)
    | .zp => some (.eorZp b1)
    | .imm => some (.eorImm b1)
    | .abs => some (.eorAbs (w16 b2 b1))
    | .izy => some (.eorIzy b1)
    | .zpx => some (.eorZpx b1)
    | .aby => some (.eorAby (w16 b2 b1))
    | .abx => some (.eorAbx (w16 b2 b1))
    | _ => none
  | .bit =>
    match mode with
    | .zp => some (.bitZp b1)
    | .abs => some (.bitAbs (w16 b2 b1))
    | _ => none
  | .cmp =>
    match mode with
    | .izx => some (.cmpIzx b1)
    | .zp => some (.cmpZp b1)
    | .imm => some (.cmpImm b1)
    | .abs => some (.cmpAbs (w16 b2 b1))
    | .izy => some (.cmpIzy b1)
    | .zpx => some (.cmpZpx b1)
    | .aby => some (.cmpAby (w16 b2 b1))
    | .abx => some (.cmpAbx (w16 b2 b1))
    | _ => none
  | .cpx =>
    match mode with
    | .imm => some (.cpxImm b1)
    | .zp => some (.cpxZp b1)
    | .abs => some (.cpxAbs (w16 b2 b1))
    | _ => none
  | .cpy =>
    match mode with
    | .imm => some (.cpyImm b1)
    | .zp => some (.cpyZp b1)
    | .abs => some (.cpyAbs (w16 b2 b1))
    | _ => none
  | .inc =>
    match mode with
    | .zp => some (.incZp b1)
    | .abs => some (.incAbs (w16 b2 b1))
    | .zpx => some (.incZpx b1)
    | .abx => some (.incAbx (w16 b2 b1))
    | _ => none
  | .dec =>
    match mode with
    | .zp => some (.decZp b1)
    | .abs => some (.decAbs (w16 b2 b1))
    | .zpx => some (.decZpx b1)
    | .abx => some (.decAbx (w16 b2 b1))
    | _ => none
  | .inx =>
    match mode with
    | .imp => some .inx
    | _ => none
  | .iny =>
    match mode with
    | .imp => some .iny
    | _ => none
  | .dex =>
    match mode with
    | .imp => some .dex
    | _ => none
  | .dey =>
    match mode with
    | .imp => some .dey
    | _ => none
  | .asl =>
    match mode with
    | .zp => some (.aslZp b1)
    | .acc => some .aslAcc
    | .abs => some (.aslAbs (w16 b2 b1))
    | .zpx => some (.aslZpx b1)
    | .abx => some (.aslAbx (w16 b2 b1))
    | _ => none
  | .lsr =>
    match mode with
    | .zp => some (.lsrZp b1)
    | .acc => some .lsrAcc
    | .abs => some (.lsrAbs (w16 b2 b1))
    | .zpx => some (.lsrZpx b1)
    | .abx => some (.lsrAbx (w16 b2 b1))
    | _ => none
  | .rol =>
    match mode with
    | .zp => some (.rolZp b1)
    | .acc => some .rolAcc
    | .abs => some (.rolAbs (w16 b2 b1))
    | .zpx => some (.rolZpx b1)
    | .abx => some (.rolAbx (w16 b2 b1))
    | _ => none
  | .ror =>
    match mode with
    | .zp => some (.rorZp b1)
    | .acc => some .rorAcc
    | .abs => some (.rorAbs (w16 b2 b1))
    | .zpx => some (.rorZpx b1)
    | .abx => some (.rorAbx (w16 b2 b1))
    | _ => none
  | .pha =>
    match mode with
    | .imp => some .pha
    | _ => none
  | .php =>
    match mode with
    | .imp => some .php
    | _ => none
  | .pla =>
    match mode with
    | .imp => some .pla
    | _ => none
  | .plp =>
    match mode with
    | .imp => some .plp
    | _ => none
  | .bcc =>
    match mode with
    | .rel => some (.bcc b1)
    | _ => none
  | .bcs =>
    match mode with
    | .rel => some (.bcs b1)
    | _ => none
  | .beq =>
    match mode with
    | .rel => some (.beq b1)
    | _ => none
  | .bne =>
    match mode with
    | .rel => some (.bne b1)
    | _ => none
  | .bmi =>
    match mode with
    | .rel => some (.bmi b1)
    | _ => none
  | .bpl =>
    match mode with
    | .rel => some (.bpl b1)
    | _ => none
  | .bvc =>
    match mode with
    | .rel => some (.bvc b1)
    | _ => none
  | .bvs =>
    match mode with
    | .rel => some (.bvs b1)
    | _ => none
  | .jmp =>
    match mode with
    | .abs => some (.jmpAbs (w16 b2 b1))
    | .ind => some (.jmpInd (w16 b2 b1))
    | _ => none
  | .jsr =>
    match mode with
    | .abs => some (.jsr (w16 b2 b1))
    | _ => none
  | .rts =>
    match mode with
    | .imp => some .rts
    | _ => none
  | .clc =>
    match mode with
    | .imp => some .clc
    | _ => none
  | .cld =>
    match mode with
    | .imp => some .cld
    | _ => none
  | .cli =>
    match mode with
    | .imp => some .cli
    | _ => none
  | .clv =>
    match mode with
    | .imp => some .clv
    | _ => none
  | .sec =>
    match mode with
    | .imp => some .sec
    | _ => none
  | .sed =>
    match mode with
    | .imp => some .sed
    | _ => none
  | .sei =>
    match mode with
    | .imp => some .sei
    | _ => none
  | .nop =>
    match mode with
    | .imp => some .nop
    | _ => none
  | .brk =>
    match mode with
    | .imp => some .brk
    | _ => none
  | .rti =>
    match mode with
    | .imp => some .rti
    | _ => none

/-- Why bytes do not decode. -/
inductive DecodeError where
  /-- The opcode byte has no entry in the table (R104). -/
  | unknownOpcode (op : Byte)
  /-- The table held a combination no instruction has (R106, R311): not the case for the table of R99. -/
  | unsupported (mn : Mnemonic) (mode : Mode)
  /-- The byte list ends inside the instruction: a list of bytes can, the 64 KiB address space cannot. -/
  | truncated
  deriving DecidableEq, Repr

/-- Decodes an instruction whose bytes are `op`, `b1`, `b2`, of which it uses as many as its mode says (R90, R91). -/
def decodeBytes (op b1 b2 : Byte) : Except DecodeError Instr :=
  match lookup op with
  | none => .error (.unknownOpcode op)
  | some e =>
    match assemble e.mnemonic e.mode b1 b2 with
    | none => .error (.unsupported e.mnemonic e.mode)
    | some i => .ok i

/-- Decodes the first instruction of a list of bytes; answers it with the bytes after it. Total: every list is
decoded or refused by name. -/
def decode : List Byte → Except DecodeError (Instr × List Byte)
  | [] => .error .truncated
  | op :: rest =>
    match lookup op with
    | none => .error (.unknownOpcode op)
    | some e =>
      if rest.length + 1 < e.mode.length then .error .truncated
      else
        match decodeBytes op (rest[0]?.getD 0) (rest[1]?.getD 0) with
        | .error err => .error err
        | .ok i => .ok (i, rest.drop (e.mode.length - 1))

/-! ## The encoder -/

/-- The opcode byte of an instruction, from the encoding column of the rules R201 to R290. -/
def Instr.opcode : Instr → Byte
  | .ldaIzx _ => 0xA1#8
  | .ldaZp _ => 0xA5#8
  | .ldaImm _ => 0xA9#8
  | .ldaAbs _ => 0xAD#8
  | .ldaIzy _ => 0xB1#8
  | .ldaZpx _ => 0xB5#8
  | .ldaAby _ => 0xB9#8
  | .ldaAbx _ => 0xBD#8
  | .ldxImm _ => 0xA2#8
  | .ldxZp _ => 0xA6#8
  | .ldxAbs _ => 0xAE#8
  | .ldxZpy _ => 0xB6#8
  | .ldxAby _ => 0xBE#8
  | .ldyImm _ => 0xA0#8
  | .ldyZp _ => 0xA4#8
  | .ldyAbs _ => 0xAC#8
  | .ldyZpx _ => 0xB4#8
  | .ldyAbx _ => 0xBC#8
  | .staIzx _ => 0x81#8
  | .staZp _ => 0x85#8
  | .staAbs _ => 0x8D#8
  | .staIzy _ => 0x91#8
  | .staZpx _ => 0x95#8
  | .staAby _ => 0x99#8
  | .staAbx _ => 0x9D#8
  | .stxZp _ => 0x86#8
  | .stxAbs _ => 0x8E#8
  | .stxZpy _ => 0x96#8
  | .styZp _ => 0x84#8
  | .styAbs _ => 0x8C#8
  | .styZpx _ => 0x94#8
  | .tax => 0xAA#8
  | .tay => 0xA8#8
  | .txa => 0x8A#8
  | .tya => 0x98#8
  | .tsx => 0xBA#8
  | .txs => 0x9A#8
  | .adcIzx _ => 0x61#8
  | .adcZp _ => 0x65#8
  | .adcImm _ => 0x69#8
  | .adcAbs _ => 0x6D#8
  | .adcIzy _ => 0x71#8
  | .adcZpx _ => 0x75#8
  | .adcAby _ => 0x79#8
  | .adcAbx _ => 0x7D#8
  | .sbcIzx _ => 0xE1#8
  | .sbcZp _ => 0xE5#8
  | .sbcImm _ => 0xE9#8
  | .sbcAbs _ => 0xED#8
  | .sbcIzy _ => 0xF1#8
  | .sbcZpx _ => 0xF5#8
  | .sbcAby _ => 0xF9#8
  | .sbcAbx _ => 0xFD#8
  | .andIzx _ => 0x21#8
  | .andZp _ => 0x25#8
  | .andImm _ => 0x29#8
  | .andAbs _ => 0x2D#8
  | .andIzy _ => 0x31#8
  | .andZpx _ => 0x35#8
  | .andAby _ => 0x39#8
  | .andAbx _ => 0x3D#8
  | .oraIzx _ => 0x01#8
  | .oraZp _ => 0x05#8
  | .oraImm _ => 0x09#8
  | .oraAbs _ => 0x0D#8
  | .oraIzy _ => 0x11#8
  | .oraZpx _ => 0x15#8
  | .oraAby _ => 0x19#8
  | .oraAbx _ => 0x1D#8
  | .eorIzx _ => 0x41#8
  | .eorZp _ => 0x45#8
  | .eorImm _ => 0x49#8
  | .eorAbs _ => 0x4D#8
  | .eorIzy _ => 0x51#8
  | .eorZpx _ => 0x55#8
  | .eorAby _ => 0x59#8
  | .eorAbx _ => 0x5D#8
  | .bitZp _ => 0x24#8
  | .bitAbs _ => 0x2C#8
  | .cmpIzx _ => 0xC1#8
  | .cmpZp _ => 0xC5#8
  | .cmpImm _ => 0xC9#8
  | .cmpAbs _ => 0xCD#8
  | .cmpIzy _ => 0xD1#8
  | .cmpZpx _ => 0xD5#8
  | .cmpAby _ => 0xD9#8
  | .cmpAbx _ => 0xDD#8
  | .cpxImm _ => 0xE0#8
  | .cpxZp _ => 0xE4#8
  | .cpxAbs _ => 0xEC#8
  | .cpyImm _ => 0xC0#8
  | .cpyZp _ => 0xC4#8
  | .cpyAbs _ => 0xCC#8
  | .incZp _ => 0xE6#8
  | .incAbs _ => 0xEE#8
  | .incZpx _ => 0xF6#8
  | .incAbx _ => 0xFE#8
  | .decZp _ => 0xC6#8
  | .decAbs _ => 0xCE#8
  | .decZpx _ => 0xD6#8
  | .decAbx _ => 0xDE#8
  | .inx => 0xE8#8
  | .iny => 0xC8#8
  | .dex => 0xCA#8
  | .dey => 0x88#8
  | .aslZp _ => 0x06#8
  | .aslAcc => 0x0A#8
  | .aslAbs _ => 0x0E#8
  | .aslZpx _ => 0x16#8
  | .aslAbx _ => 0x1E#8
  | .lsrZp _ => 0x46#8
  | .lsrAcc => 0x4A#8
  | .lsrAbs _ => 0x4E#8
  | .lsrZpx _ => 0x56#8
  | .lsrAbx _ => 0x5E#8
  | .rolZp _ => 0x26#8
  | .rolAcc => 0x2A#8
  | .rolAbs _ => 0x2E#8
  | .rolZpx _ => 0x36#8
  | .rolAbx _ => 0x3E#8
  | .rorZp _ => 0x66#8
  | .rorAcc => 0x6A#8
  | .rorAbs _ => 0x6E#8
  | .rorZpx _ => 0x76#8
  | .rorAbx _ => 0x7E#8
  | .pha => 0x48#8
  | .php => 0x08#8
  | .pla => 0x68#8
  | .plp => 0x28#8
  | .bcc _ => 0x90#8
  | .bcs _ => 0xB0#8
  | .beq _ => 0xF0#8
  | .bne _ => 0xD0#8
  | .bmi _ => 0x30#8
  | .bpl _ => 0x10#8
  | .bvc _ => 0x50#8
  | .bvs _ => 0x70#8
  | .jmpAbs _ => 0x4C#8
  | .jmpInd _ => 0x6C#8
  | .jsr _ => 0x20#8
  | .rts => 0x60#8
  | .clc => 0x18#8
  | .cld => 0xD8#8
  | .cli => 0x58#8
  | .clv => 0xB8#8
  | .sec => 0x38#8
  | .sed => 0xF8#8
  | .sei => 0x78#8
  | .nop => 0xEA#8
  | .brk => 0x00#8
  | .rti => 0x40#8

/-- The operand bytes of an instruction, low byte first (R64, R90). -/
def Instr.operands : Instr → List Byte
  | .ldaIzx zp => [zp]
  | .ldaZp zp => [zp]
  | .ldaImm v => [v]
  | .ldaAbs addr => [lo addr, hi addr]
  | .ldaIzy zp => [zp]
  | .ldaZpx zp => [zp]
  | .ldaAby base => [lo base, hi base]
  | .ldaAbx base => [lo base, hi base]
  | .ldxImm v => [v]
  | .ldxZp zp => [zp]
  | .ldxAbs addr => [lo addr, hi addr]
  | .ldxZpy zp => [zp]
  | .ldxAby base => [lo base, hi base]
  | .ldyImm v => [v]
  | .ldyZp zp => [zp]
  | .ldyAbs addr => [lo addr, hi addr]
  | .ldyZpx zp => [zp]
  | .ldyAbx base => [lo base, hi base]
  | .staIzx zp => [zp]
  | .staZp zp => [zp]
  | .staAbs addr => [lo addr, hi addr]
  | .staIzy zp => [zp]
  | .staZpx zp => [zp]
  | .staAby base => [lo base, hi base]
  | .staAbx base => [lo base, hi base]
  | .stxZp zp => [zp]
  | .stxAbs addr => [lo addr, hi addr]
  | .stxZpy zp => [zp]
  | .styZp zp => [zp]
  | .styAbs addr => [lo addr, hi addr]
  | .styZpx zp => [zp]
  | .tax => []
  | .tay => []
  | .txa => []
  | .tya => []
  | .tsx => []
  | .txs => []
  | .adcIzx zp => [zp]
  | .adcZp zp => [zp]
  | .adcImm v => [v]
  | .adcAbs addr => [lo addr, hi addr]
  | .adcIzy zp => [zp]
  | .adcZpx zp => [zp]
  | .adcAby base => [lo base, hi base]
  | .adcAbx base => [lo base, hi base]
  | .sbcIzx zp => [zp]
  | .sbcZp zp => [zp]
  | .sbcImm v => [v]
  | .sbcAbs addr => [lo addr, hi addr]
  | .sbcIzy zp => [zp]
  | .sbcZpx zp => [zp]
  | .sbcAby base => [lo base, hi base]
  | .sbcAbx base => [lo base, hi base]
  | .andIzx zp => [zp]
  | .andZp zp => [zp]
  | .andImm v => [v]
  | .andAbs addr => [lo addr, hi addr]
  | .andIzy zp => [zp]
  | .andZpx zp => [zp]
  | .andAby base => [lo base, hi base]
  | .andAbx base => [lo base, hi base]
  | .oraIzx zp => [zp]
  | .oraZp zp => [zp]
  | .oraImm v => [v]
  | .oraAbs addr => [lo addr, hi addr]
  | .oraIzy zp => [zp]
  | .oraZpx zp => [zp]
  | .oraAby base => [lo base, hi base]
  | .oraAbx base => [lo base, hi base]
  | .eorIzx zp => [zp]
  | .eorZp zp => [zp]
  | .eorImm v => [v]
  | .eorAbs addr => [lo addr, hi addr]
  | .eorIzy zp => [zp]
  | .eorZpx zp => [zp]
  | .eorAby base => [lo base, hi base]
  | .eorAbx base => [lo base, hi base]
  | .bitZp zp => [zp]
  | .bitAbs addr => [lo addr, hi addr]
  | .cmpIzx zp => [zp]
  | .cmpZp zp => [zp]
  | .cmpImm v => [v]
  | .cmpAbs addr => [lo addr, hi addr]
  | .cmpIzy zp => [zp]
  | .cmpZpx zp => [zp]
  | .cmpAby base => [lo base, hi base]
  | .cmpAbx base => [lo base, hi base]
  | .cpxImm v => [v]
  | .cpxZp zp => [zp]
  | .cpxAbs addr => [lo addr, hi addr]
  | .cpyImm v => [v]
  | .cpyZp zp => [zp]
  | .cpyAbs addr => [lo addr, hi addr]
  | .incZp zp => [zp]
  | .incAbs addr => [lo addr, hi addr]
  | .incZpx zp => [zp]
  | .incAbx base => [lo base, hi base]
  | .decZp zp => [zp]
  | .decAbs addr => [lo addr, hi addr]
  | .decZpx zp => [zp]
  | .decAbx base => [lo base, hi base]
  | .inx => []
  | .iny => []
  | .dex => []
  | .dey => []
  | .aslZp zp => [zp]
  | .aslAcc => []
  | .aslAbs addr => [lo addr, hi addr]
  | .aslZpx zp => [zp]
  | .aslAbx base => [lo base, hi base]
  | .lsrZp zp => [zp]
  | .lsrAcc => []
  | .lsrAbs addr => [lo addr, hi addr]
  | .lsrZpx zp => [zp]
  | .lsrAbx base => [lo base, hi base]
  | .rolZp zp => [zp]
  | .rolAcc => []
  | .rolAbs addr => [lo addr, hi addr]
  | .rolZpx zp => [zp]
  | .rolAbx base => [lo base, hi base]
  | .rorZp zp => [zp]
  | .rorAcc => []
  | .rorAbs addr => [lo addr, hi addr]
  | .rorZpx zp => [zp]
  | .rorAbx base => [lo base, hi base]
  | .pha => []
  | .php => []
  | .pla => []
  | .plp => []
  | .bcc offset => [offset]
  | .bcs offset => [offset]
  | .beq offset => [offset]
  | .bne offset => [offset]
  | .bmi offset => [offset]
  | .bpl offset => [offset]
  | .bvc offset => [offset]
  | .bvs offset => [offset]
  | .jmpAbs target => [lo target, hi target]
  | .jmpInd ptr => [lo ptr, hi ptr]
  | .jsr target => [lo target, hi target]
  | .rts => []
  | .clc => []
  | .cld => []
  | .cli => []
  | .clv => []
  | .sec => []
  | .sed => []
  | .sei => []
  | .nop => []
  | .brk => []
  | .rti => []

/-- The bytes of an instruction in memory order (R90). -/
def encode (i : Instr) : List Byte :=
  i.opcode :: i.operands

/-- The mnemonic of an instruction (R99). -/
def Instr.mnemonic : Instr → Mnemonic
  | .ldaIzx _ => .lda
  | .ldaZp _ => .lda
  | .ldaImm _ => .lda
  | .ldaAbs _ => .lda
  | .ldaIzy _ => .lda
  | .ldaZpx _ => .lda
  | .ldaAby _ => .lda
  | .ldaAbx _ => .lda
  | .ldxImm _ => .ldx
  | .ldxZp _ => .ldx
  | .ldxAbs _ => .ldx
  | .ldxZpy _ => .ldx
  | .ldxAby _ => .ldx
  | .ldyImm _ => .ldy
  | .ldyZp _ => .ldy
  | .ldyAbs _ => .ldy
  | .ldyZpx _ => .ldy
  | .ldyAbx _ => .ldy
  | .staIzx _ => .sta
  | .staZp _ => .sta
  | .staAbs _ => .sta
  | .staIzy _ => .sta
  | .staZpx _ => .sta
  | .staAby _ => .sta
  | .staAbx _ => .sta
  | .stxZp _ => .stx
  | .stxAbs _ => .stx
  | .stxZpy _ => .stx
  | .styZp _ => .sty
  | .styAbs _ => .sty
  | .styZpx _ => .sty
  | .tax => .tax
  | .tay => .tay
  | .txa => .txa
  | .tya => .tya
  | .tsx => .tsx
  | .txs => .txs
  | .adcIzx _ => .adc
  | .adcZp _ => .adc
  | .adcImm _ => .adc
  | .adcAbs _ => .adc
  | .adcIzy _ => .adc
  | .adcZpx _ => .adc
  | .adcAby _ => .adc
  | .adcAbx _ => .adc
  | .sbcIzx _ => .sbc
  | .sbcZp _ => .sbc
  | .sbcImm _ => .sbc
  | .sbcAbs _ => .sbc
  | .sbcIzy _ => .sbc
  | .sbcZpx _ => .sbc
  | .sbcAby _ => .sbc
  | .sbcAbx _ => .sbc
  | .andIzx _ => .and
  | .andZp _ => .and
  | .andImm _ => .and
  | .andAbs _ => .and
  | .andIzy _ => .and
  | .andZpx _ => .and
  | .andAby _ => .and
  | .andAbx _ => .and
  | .oraIzx _ => .ora
  | .oraZp _ => .ora
  | .oraImm _ => .ora
  | .oraAbs _ => .ora
  | .oraIzy _ => .ora
  | .oraZpx _ => .ora
  | .oraAby _ => .ora
  | .oraAbx _ => .ora
  | .eorIzx _ => .eor
  | .eorZp _ => .eor
  | .eorImm _ => .eor
  | .eorAbs _ => .eor
  | .eorIzy _ => .eor
  | .eorZpx _ => .eor
  | .eorAby _ => .eor
  | .eorAbx _ => .eor
  | .bitZp _ => .bit
  | .bitAbs _ => .bit
  | .cmpIzx _ => .cmp
  | .cmpZp _ => .cmp
  | .cmpImm _ => .cmp
  | .cmpAbs _ => .cmp
  | .cmpIzy _ => .cmp
  | .cmpZpx _ => .cmp
  | .cmpAby _ => .cmp
  | .cmpAbx _ => .cmp
  | .cpxImm _ => .cpx
  | .cpxZp _ => .cpx
  | .cpxAbs _ => .cpx
  | .cpyImm _ => .cpy
  | .cpyZp _ => .cpy
  | .cpyAbs _ => .cpy
  | .incZp _ => .inc
  | .incAbs _ => .inc
  | .incZpx _ => .inc
  | .incAbx _ => .inc
  | .decZp _ => .dec
  | .decAbs _ => .dec
  | .decZpx _ => .dec
  | .decAbx _ => .dec
  | .inx => .inx
  | .iny => .iny
  | .dex => .dex
  | .dey => .dey
  | .aslZp _ => .asl
  | .aslAcc => .asl
  | .aslAbs _ => .asl
  | .aslZpx _ => .asl
  | .aslAbx _ => .asl
  | .lsrZp _ => .lsr
  | .lsrAcc => .lsr
  | .lsrAbs _ => .lsr
  | .lsrZpx _ => .lsr
  | .lsrAbx _ => .lsr
  | .rolZp _ => .rol
  | .rolAcc => .rol
  | .rolAbs _ => .rol
  | .rolZpx _ => .rol
  | .rolAbx _ => .rol
  | .rorZp _ => .ror
  | .rorAcc => .ror
  | .rorAbs _ => .ror
  | .rorZpx _ => .ror
  | .rorAbx _ => .ror
  | .pha => .pha
  | .php => .php
  | .pla => .pla
  | .plp => .plp
  | .bcc _ => .bcc
  | .bcs _ => .bcs
  | .beq _ => .beq
  | .bne _ => .bne
  | .bmi _ => .bmi
  | .bpl _ => .bpl
  | .bvc _ => .bvc
  | .bvs _ => .bvs
  | .jmpAbs _ => .jmp
  | .jmpInd _ => .jmp
  | .jsr _ => .jsr
  | .rts => .rts
  | .clc => .clc
  | .cld => .cld
  | .cli => .cli
  | .clv => .clv
  | .sec => .sec
  | .sed => .sed
  | .sei => .sei
  | .nop => .nop
  | .brk => .brk
  | .rti => .rti

/-- The addressing mode of an instruction (R99). -/
def Instr.mode : Instr → Mode
  | .ldaIzx _ => .izx
  | .ldaZp _ => .zp
  | .ldaImm _ => .imm
  | .ldaAbs _ => .abs
  | .ldaIzy _ => .izy
  | .ldaZpx _ => .zpx
  | .ldaAby _ => .aby
  | .ldaAbx _ => .abx
  | .ldxImm _ => .imm
  | .ldxZp _ => .zp
  | .ldxAbs _ => .abs
  | .ldxZpy _ => .zpy
  | .ldxAby _ => .aby
  | .ldyImm _ => .imm
  | .ldyZp _ => .zp
  | .ldyAbs _ => .abs
  | .ldyZpx _ => .zpx
  | .ldyAbx _ => .abx
  | .staIzx _ => .izx
  | .staZp _ => .zp
  | .staAbs _ => .abs
  | .staIzy _ => .izy
  | .staZpx _ => .zpx
  | .staAby _ => .aby
  | .staAbx _ => .abx
  | .stxZp _ => .zp
  | .stxAbs _ => .abs
  | .stxZpy _ => .zpy
  | .styZp _ => .zp
  | .styAbs _ => .abs
  | .styZpx _ => .zpx
  | .tax => .imp
  | .tay => .imp
  | .txa => .imp
  | .tya => .imp
  | .tsx => .imp
  | .txs => .imp
  | .adcIzx _ => .izx
  | .adcZp _ => .zp
  | .adcImm _ => .imm
  | .adcAbs _ => .abs
  | .adcIzy _ => .izy
  | .adcZpx _ => .zpx
  | .adcAby _ => .aby
  | .adcAbx _ => .abx
  | .sbcIzx _ => .izx
  | .sbcZp _ => .zp
  | .sbcImm _ => .imm
  | .sbcAbs _ => .abs
  | .sbcIzy _ => .izy
  | .sbcZpx _ => .zpx
  | .sbcAby _ => .aby
  | .sbcAbx _ => .abx
  | .andIzx _ => .izx
  | .andZp _ => .zp
  | .andImm _ => .imm
  | .andAbs _ => .abs
  | .andIzy _ => .izy
  | .andZpx _ => .zpx
  | .andAby _ => .aby
  | .andAbx _ => .abx
  | .oraIzx _ => .izx
  | .oraZp _ => .zp
  | .oraImm _ => .imm
  | .oraAbs _ => .abs
  | .oraIzy _ => .izy
  | .oraZpx _ => .zpx
  | .oraAby _ => .aby
  | .oraAbx _ => .abx
  | .eorIzx _ => .izx
  | .eorZp _ => .zp
  | .eorImm _ => .imm
  | .eorAbs _ => .abs
  | .eorIzy _ => .izy
  | .eorZpx _ => .zpx
  | .eorAby _ => .aby
  | .eorAbx _ => .abx
  | .bitZp _ => .zp
  | .bitAbs _ => .abs
  | .cmpIzx _ => .izx
  | .cmpZp _ => .zp
  | .cmpImm _ => .imm
  | .cmpAbs _ => .abs
  | .cmpIzy _ => .izy
  | .cmpZpx _ => .zpx
  | .cmpAby _ => .aby
  | .cmpAbx _ => .abx
  | .cpxImm _ => .imm
  | .cpxZp _ => .zp
  | .cpxAbs _ => .abs
  | .cpyImm _ => .imm
  | .cpyZp _ => .zp
  | .cpyAbs _ => .abs
  | .incZp _ => .zp
  | .incAbs _ => .abs
  | .incZpx _ => .zpx
  | .incAbx _ => .abx
  | .decZp _ => .zp
  | .decAbs _ => .abs
  | .decZpx _ => .zpx
  | .decAbx _ => .abx
  | .inx => .imp
  | .iny => .imp
  | .dex => .imp
  | .dey => .imp
  | .aslZp _ => .zp
  | .aslAcc => .acc
  | .aslAbs _ => .abs
  | .aslZpx _ => .zpx
  | .aslAbx _ => .abx
  | .lsrZp _ => .zp
  | .lsrAcc => .acc
  | .lsrAbs _ => .abs
  | .lsrZpx _ => .zpx
  | .lsrAbx _ => .abx
  | .rolZp _ => .zp
  | .rolAcc => .acc
  | .rolAbs _ => .abs
  | .rolZpx _ => .zpx
  | .rolAbx _ => .abx
  | .rorZp _ => .zp
  | .rorAcc => .acc
  | .rorAbs _ => .abs
  | .rorZpx _ => .zpx
  | .rorAbx _ => .abx
  | .pha => .imp
  | .php => .imp
  | .pla => .imp
  | .plp => .imp
  | .bcc _ => .rel
  | .bcs _ => .rel
  | .beq _ => .rel
  | .bne _ => .rel
  | .bmi _ => .rel
  | .bpl _ => .rel
  | .bvc _ => .rel
  | .bvs _ => .rel
  | .jmpAbs _ => .abs
  | .jmpInd _ => .ind
  | .jsr _ => .abs
  | .rts => .imp
  | .clc => .imp
  | .cld => .imp
  | .cli => .imp
  | .clv => .imp
  | .sec => .imp
  | .sed => .imp
  | .sei => .imp
  | .nop => .imp
  | .brk => .imp
  | .rti => .imp

/-- The base cycle count of an instruction (R99, R102). -/
def Instr.cycles : Instr → Nat
  | .ldaIzx _ => 6
  | .ldaZp _ => 3
  | .ldaImm _ => 2
  | .ldaAbs _ => 4
  | .ldaIzy _ => 5
  | .ldaZpx _ => 4
  | .ldaAby _ => 4
  | .ldaAbx _ => 4
  | .ldxImm _ => 2
  | .ldxZp _ => 3
  | .ldxAbs _ => 4
  | .ldxZpy _ => 4
  | .ldxAby _ => 4
  | .ldyImm _ => 2
  | .ldyZp _ => 3
  | .ldyAbs _ => 4
  | .ldyZpx _ => 4
  | .ldyAbx _ => 4
  | .staIzx _ => 6
  | .staZp _ => 3
  | .staAbs _ => 4
  | .staIzy _ => 6
  | .staZpx _ => 4
  | .staAby _ => 5
  | .staAbx _ => 5
  | .stxZp _ => 3
  | .stxAbs _ => 4
  | .stxZpy _ => 4
  | .styZp _ => 3
  | .styAbs _ => 4
  | .styZpx _ => 4
  | .tax => 2
  | .tay => 2
  | .txa => 2
  | .tya => 2
  | .tsx => 2
  | .txs => 2
  | .adcIzx _ => 6
  | .adcZp _ => 3
  | .adcImm _ => 2
  | .adcAbs _ => 4
  | .adcIzy _ => 5
  | .adcZpx _ => 4
  | .adcAby _ => 4
  | .adcAbx _ => 4
  | .sbcIzx _ => 6
  | .sbcZp _ => 3
  | .sbcImm _ => 2
  | .sbcAbs _ => 4
  | .sbcIzy _ => 5
  | .sbcZpx _ => 4
  | .sbcAby _ => 4
  | .sbcAbx _ => 4
  | .andIzx _ => 6
  | .andZp _ => 3
  | .andImm _ => 2
  | .andAbs _ => 4
  | .andIzy _ => 5
  | .andZpx _ => 4
  | .andAby _ => 4
  | .andAbx _ => 4
  | .oraIzx _ => 6
  | .oraZp _ => 3
  | .oraImm _ => 2
  | .oraAbs _ => 4
  | .oraIzy _ => 5
  | .oraZpx _ => 4
  | .oraAby _ => 4
  | .oraAbx _ => 4
  | .eorIzx _ => 6
  | .eorZp _ => 3
  | .eorImm _ => 2
  | .eorAbs _ => 4
  | .eorIzy _ => 5
  | .eorZpx _ => 4
  | .eorAby _ => 4
  | .eorAbx _ => 4
  | .bitZp _ => 3
  | .bitAbs _ => 4
  | .cmpIzx _ => 6
  | .cmpZp _ => 3
  | .cmpImm _ => 2
  | .cmpAbs _ => 4
  | .cmpIzy _ => 5
  | .cmpZpx _ => 4
  | .cmpAby _ => 4
  | .cmpAbx _ => 4
  | .cpxImm _ => 2
  | .cpxZp _ => 3
  | .cpxAbs _ => 4
  | .cpyImm _ => 2
  | .cpyZp _ => 3
  | .cpyAbs _ => 4
  | .incZp _ => 5
  | .incAbs _ => 6
  | .incZpx _ => 6
  | .incAbx _ => 7
  | .decZp _ => 5
  | .decAbs _ => 6
  | .decZpx _ => 6
  | .decAbx _ => 7
  | .inx => 2
  | .iny => 2
  | .dex => 2
  | .dey => 2
  | .aslZp _ => 5
  | .aslAcc => 2
  | .aslAbs _ => 6
  | .aslZpx _ => 6
  | .aslAbx _ => 7
  | .lsrZp _ => 5
  | .lsrAcc => 2
  | .lsrAbs _ => 6
  | .lsrZpx _ => 6
  | .lsrAbx _ => 7
  | .rolZp _ => 5
  | .rolAcc => 2
  | .rolAbs _ => 6
  | .rolZpx _ => 6
  | .rolAbx _ => 7
  | .rorZp _ => 5
  | .rorAcc => 2
  | .rorAbs _ => 6
  | .rorZpx _ => 6
  | .rorAbx _ => 7
  | .pha => 3
  | .php => 3
  | .pla => 4
  | .plp => 4
  | .bcc _ => 2
  | .bcs _ => 2
  | .beq _ => 2
  | .bne _ => 2
  | .bmi _ => 2
  | .bpl _ => 2
  | .bvc _ => 2
  | .bvs _ => 2
  | .jmpAbs _ => 3
  | .jmpInd _ => 5
  | .jsr _ => 6
  | .rts => 6
  | .clc => 2
  | .cld => 2
  | .cli => 2
  | .clv => 2
  | .sec => 2
  | .sed => 2
  | .sei => 2
  | .nop => 2
  | .brk => 7
  | .rti => 6

/-- The table entry an instruction should have. -/
def Instr.entry (i : Instr) : Entry :=
  ⟨i.mnemonic, i.mode, i.cycles⟩

/-! ## The host's view of the decoder -/

/-- Byte `k` of an instruction whose bits are `w`, numbered as spec/opcode_table.json numbers them (byte 0 first);
every bit at or above `nbits` is 0. -/
def tableByte (nbits w k : Nat) : Byte :=
  BitVec.ofNat 8 (w % 2 ^ nbits / 256 ^ k)

/-- What the decoder reads from an instruction whose bits are `w` (bits at or above `nbits` are 0). -/
def decodeTableWord (nbits w : Nat) : Option Instr :=
  match decode [tableByte nbits w 0, tableByte nbits w 1, tableByte nbits w 2] with
  | .ok (i, _) => some i
  | .error _ => none

end Sys2Proof
end

