-- ==== Sys2Proof/Config.lean ====
section
/-! DEFINITION. The two named parameters the spec leaves open (R8). They are held in State, where no step changes
them, so that every statement holds for each of their values. -/

namespace Sys2Proof

/-- Whether the dummy bus accesses are performed (R8, R12, D7). -/
inductive DummyBus where
  /-- Every dummy access of 40_sequencer.md happens on the bus. -/
  | full
  /-- The clock of a dummy access is spent with no bus access. -/
  | none
  deriving DecidableEq, Repr

/-- The parameters of R8. -/
structure Config where
  /-- `DUMMY_BUS` (D7). -/
  dummyBus : DummyBus
  /-- `STALL_BITS`: the width of the stall counter, `none` for unbounded (D16). -/
  stallBits : Option Nat
  deriving DecidableEq, Repr

/-- The defaults of R8: `DUMMY_BUS = full`, `STALL_BITS = unbounded` (log 8). -/
def Config.default : Config where
  dummyBus := .full
  stallBits := none

/-- The largest stall count plus one, where the width is finite (R42, D16). -/
def Config.stallFits (c : Config) (n : Nat) : Bool :=
  match c.stallBits with
  | none => true
  | some w => decide (n < 2 ^ w)

end Sys2Proof
end

