-- ==== Sys2Proof/Machine/State.lean ====
section
/-! DEFINITION. The state of the machine as plain data, group by group as 10_state.md lists it, the reasons a step
can stop, and the state right after power-on. -/

namespace Sys2Proof.Machine

open Sys2Proof

/-- Why the machine stops. -/
inductive Fault where
  /-- Raised by the decode clock on a byte with no table entry, with the byte and the address it was fetched from
  (R104, R310). Safe: the spec makes it fatal. -/
  | unknownOpcode (opcode : Byte) (addr : Addr)
  /-- Raised by the sequencer on a mnemonic and mode the table does not hold (R106, R311). Safe: the table of R99
  never leads there, so only a state no run reaches raises it. -/
  | unsupportedAddressingMode (mn : Mnemonic) (mode : Mode)
  /-- Raised by a row that reads an unset latch (R39, I16). Safe: no run reaches it (R172). -/
  | unsetField
  /-- Raised when an in-flight sequence stands at a clock its table has no row for (log 9). Safe: no run reaches it
  (R134, R171). -/
  | noSuchRow
  deriving DecidableEq, Repr

/-- Why an instruction or a host call is turned away. -/
inductive Refusal where
  /-- An instruction with no meaning yet: raised by no arm of `exec`, since every instruction has its meaning. Safe. -/
  | notModelled (mnemonic : String)
  /-- Raised by `restore` while an instruction or an interrupt sequence is in flight (R350, I10). Safe: the spec
  forbids the host that call. -/
  | restoreInFlight
  /-- Raised by `addStall` when the total does not fit `STALL_BITS` (D16, I8). Safe: the spec forbids the host that
  call. -/
  | stallOverflow
  deriving DecidableEq, Repr

/-- The register file (R20). It is also the snapshot record of R46, which holds exactly these fields. -/
structure RegisterFile where
  /-- Program counter (R26). -/
  pc : Addr
  /-- Stack pointer, an offset into page $01 (R25). -/
  sp : Byte
  /-- Accumulator (R22). -/
  a : Byte
  /-- Index register X (R23). -/
  x : Byte
  /-- Index register Y (R24). -/
  y : Byte
  /-- Carry (R27). -/
  c : Bool
  /-- Zero (R28). -/
  z : Bool
  /-- Interrupt disable (R31). -/
  i : Bool
  /-- Decimal, inert (R32). -/
  d : Bool
  /-- Overflow (R30). -/
  v : Bool
  /-- Negative (R29). -/
  n : Bool
  deriving DecidableEq, Repr

/-- What the next clock does (R37). `nmiSeq` is the document's `processing_nmi`, `irqSeq` its `processing_irq`. -/
inductive Phase where
  | idle | exec | nmiSeq | irqSeq
  deriving DecidableEq, Repr

/-- The instruction execution state of the micro-sequencer (R36). -/
structure SeqState where
  phase : Phase
  /-- Clocks already done in the current instruction or sequence. -/
  t : Nat
  mnemonic : Mnemonic
  mode : Mode
  /-- Address latch; `none` is the spec's "unset" (R39). -/
  effectiveAddress : Option Addr
  /-- Data latch; `none` is "unset". -/
  operand : Option Byte
  /-- Second data latch; `none` is "unset". -/
  tempLatch : Option Byte
  /-- Page-cross indication of the current instruction. -/
  crossed : Bool
  /-- The table cycle count of the decoded opcode, or 7 for a sequence. -/
  baseCycles : Nat
  deriving DecidableEq, Repr

/-- The interrupt latches (R40, R41); `processing_nmi` and `processing_irq` are the phase (R37). -/
structure InterruptLatches where
  /-- A pending NMI edge (R40). -/
  nmiPending : Bool
  /-- The IRQ level as last sampled (R41). -/
  irqLineAsserted : Bool
  deriving DecidableEq, Repr

/-- The four kinds of bus access (R12). -/
inductive AccessKind where
  | read | write | dummyRead | dummyWrite
  deriving DecidableEq, Repr

/-- One recorded access: its clock, kind, address and value (R63). Clock 1 is the first clock after power-on; an
access made between clocks k and k + 1 (R341) has clock k. -/
structure Access where
  clock : Nat
  kind : AccessKind
  addr : Addr
  value : Byte
  deriving DecidableEq, Repr

/-- One answer of the Bus that is not plain RAM's: a read of `addr` at `clock` answers `value` (R63, log 2). -/
structure Answer where
  clock : Nat
  addr : Addr
  value : Byte
  deriving DecidableEq, Repr

/-- The bus port as an observer sees it (R63): the number of clocks run, the accesses so far (the most recent first)
and the answers of the devices behind the Bus. -/
structure BusPort where
  now : Nat
  trace : List Access
  answers : List Answer
  deriving DecidableEq, Repr

/-- The whole state (10_state.md), the Bus as the core sees it (R60, R63) and the parameters (R8). -/
structure State where
  regs : RegisterFile
  seq : SeqState
  latches : InterruptLatches
  /-- The level the host drives on the IRQ input (R41). -/
  irqIn : Bool
  /-- The DMA stall counter (R42). -/
  stallCycles : Nat
  /-- `none` while running, else the fatal fault (R43). -/
  halted : Option Fault
  /-- Memory behind the Bus: (address, byte) pairs in canonical form (`Memory.wf`), an unlisted address reading 0
  (D26, log 1). -/
  mem : List Host.Cell
  bus : BusPort
  config : Config
  deriving DecidableEq, Repr

/-- The register file at power-on (R44); PC is 0 until the reset vector is loaded. -/
def RegisterFile.powerOn : RegisterFile where
  pc := 0x0000#16
  sp := 0xFD#8
  a := 0x00#8
  x := 0x00#8
  y := 0x00#8
  c := false
  z := false
  i := true
  d := false
  v := false
  n := false

/-- The execution state at power-on (R44): Idle, t = 0, latches unset, crossed = 0. `mnemonic`, `mode` and
`baseCycles` have no value in the spec until a decode sets them (DESIGN CHOICE, log 5). -/
def SeqState.powerOn : SeqState where
  phase := .idle
  t := 0
  mnemonic := .nop
  mode := .imp
  effectiveAddress := none
  operand := none
  tempLatch := none
  crossed := false
  baseCycles := 0

/-- The machine right after power-on (R44, R340), before the host's `LoadResetVector` (R341, log 7): memory lists
nothing, so the vector reads as 0 and the load leaves PC at 0. `irqIn` false is a DESIGN CHOICE (log 6). -/
def State.reset : State where
  regs := RegisterFile.powerOn
  seq := SeqState.powerOn
  latches := ⟨false, false⟩
  irqIn := false
  stallCycles := 0
  halted := none
  mem := []
  bus := ⟨0, [], []⟩
  config := Config.default

end Sys2Proof.Machine
end

