-- ==== Sys2Proof/Machine/Flags.lean ====
section
/-! DEFINITION. Flags: SetNZ, the flag rules of add, subtract and compare, the status byte, and the branch
conditions. All are pure functions of the register file. -/

namespace Sys2Proof.Machine

open Sys2Proof

/-- `SetNZ(v)`: `Z <- (v == 0); N <- v[7]` (R136). -/
def setNZ (v : Byte) (r : RegisterFile) : RegisterFile :=
  { r with z := v == 0#8, n := bit v 7 }

/-- `C <- c` where a modify function has a carry-out; INC and DEC have none and leave C (R169). -/
def setCarry (c : Option Bool) (r : RegisterFile) : RegisterFile :=
  match c with
  | some b => { r with c := b }
  | none => r

/-- `AddC(a, m, cin)`: the result, the carry and the overflow of a binary add (R220). -/
def addC (a m : Byte) (cin : Bool) : Byte × Bool × Bool :=
  let s := a.toNat + m.toNat + cin.toNat
  let r := BitVec.ofNat 8 (s % 256)
  (r, decide (s > 0xFF), ((~~~a ^^^ m) &&& (a ^^^ r) &&& 0x80#8) != 0#8)

/-- The result, the carry (no borrow) and the overflow of SBC with carry-in `cin`, the borrow being `1 - cin`; the
comparison is on unbounded integers (R223). -/
def subC (a m : Byte) (cin : Bool) : Byte × Bool × Bool :=
  let b := 1 - cin.toNat
  let r := a - m - BitVec.ofNat 8 b
  (r, decide (a.toNat ≥ m.toNat + b), ((a ^^^ r) &&& (a ^^^ m) &&& 0x80#8) != 0#8)

/-- `Compare(r, m)`: C is unsigned ≥, Z equality, N bit 7 of the wrapped difference; V is not written (R221). -/
def compareFlags (reg m : Byte) (r : RegisterFile) : RegisterFile :=
  { r with c := decide (m.toNat ≤ reg.toNat), z := reg == m, n := bit (reg - m) 7 }

/-- `PackP(b)`: the status byte N V 1 B D I Z C (R33). -/
def packP (b : Bool) (r : RegisterFile) : Byte :=
  flagByte r.n <<< 7 ||| flagByte r.v <<< 6 ||| 1#8 <<< 5 ||| flagByte b <<< 4 |||
  flagByte r.d <<< 3 ||| flagByte r.i <<< 2 ||| flagByte r.z <<< 1 ||| flagByte r.c

/-- `UnpackP(v)`: the six flags from a pulled byte; bits 5 and 4 are ignored (R33, R34). -/
def unpackP (v : Byte) (r : RegisterFile) : RegisterFile :=
  { r with n := bit v 7, v := bit v 6, d := bit v 3, i := bit v 2, z := bit v 1, c := bit v 0 }

/-- The condition of a branch (R260); `none` for any other mnemonic. -/
def branchCond (mn : Mnemonic) (r : RegisterFile) : Option Bool :=
  match mn with
  | .bpl => some (r.n == false)
  | .bmi => some (r.n == true)
  | .bvc => some (r.v == false)
  | .bvs => some (r.v == true)
  | .bcc => some (r.c == false)
  | .bcs => some (r.c == true)
  | .bne => some (r.z == false)
  | .beq => some (r.z == true)
  | _ => none

end Sys2Proof.Machine
end

