-- ==== Sys2Proof/Machine/Ops.lean ====
section
/-! DEFINITION. The named operations over memory, the bus, the latches and the registers; each bus operation is one
clock's single access (R73). Taking an interrupt is here too, once, for NMI, IRQ and BRK. -/

namespace Sys2Proof.Machine

open Sys2Proof

/-! ## Memory -/

/-- The byte a list of cells holds at an address; an unlisted address reads 0 (R62, D26, log 1). -/
def Memory.read : List Host.Cell → Nat → Byte
  | [], _ => 0#8
  | (k, v) :: m, a => if a = k then v else Memory.read m a

/-- Removes every entry of an address. -/
def Memory.erase : List Host.Cell → Nat → List Host.Cell
  | [], _ => []
  | (k, v) :: m, a => if a = k then Memory.erase m a else (k, v) :: Memory.erase m a

/-- Puts an entry before the first greater address. -/
def Memory.insert : List Host.Cell → Nat → Byte → List Host.Cell
  | [], a, v => [(a, v)]
  | (k, w) :: m, a, v => if a < k then (a, v) :: (k, w) :: m else (k, w) :: Memory.insert m a v

/-- Writes a byte; writing what an unlisted address reads as leaves no entry. -/
def Memory.write (m : List Host.Cell) (a : Nat) (v : Byte) : List Host.Cell :=
  if v = 0#8 then Memory.erase m a else Memory.insert (Memory.erase m a) a v

/-- The canonical form from an address on: addresses strictly rising and below 2^16 (R60), no entry equal to 0. -/
def Memory.wfFrom : Nat → List Host.Cell → Bool
  | _, [] => true
  | least, (k, v) :: m => decide (least ≤ k) && decide (k < 65536) && (v != 0#8) && Memory.wfFrom (k + 1) m

/-- The canonical form of memory. -/
def Memory.wf (m : List Host.Cell) : Bool := Memory.wfFrom 0 m

/-- The byte memory holds at a bus address, as a later RAM read would answer it. -/
def State.readMem (s : State) (a : Addr) : Byte := Memory.read s.mem a.toNat

/-! ## The bus port -/

/-- The device's answer to a read of `a` at clock `k`, if the Bus has one that is not RAM's (R63, log 2). -/
def oracle : List Answer → Nat → Addr → Option Byte
  | [], _, _ => none
  | e :: es, k, a => if e.clock = k ∧ e.addr = a then some e.value else oracle es k a

/-- What the Bus answers to a read of `a` at clock `k`: the oracle's answer, else the last value written (R63, D26). -/
def answerAt (k : Nat) (a : Addr) (s : State) : Byte :=
  match oracle s.bus.answers k a with
  | some v => v
  | none => s.readMem a

/-- What the Bus answers to a read of `a` made in the clock being run, clock `now + 1`. -/
def answer (a : Addr) (s : State) : Byte := answerAt (s.bus.now + 1) a s

/-- Records an access of the clock being run (R63). -/
def record (kind : AccessKind) (a : Addr) (v : Byte) (s : State) : State :=
  { s with bus := { s.bus with trace := ⟨s.bus.now + 1, kind, a, v⟩ :: s.bus.trace } }

/-- `irq_line_asserted <- irq_in` (R41, R130). -/
def poll (s : State) : State :=
  { s with latches := { s.latches with irqLineAsserted := s.irqIn } }

/-- A clock passes: the IRQ level has been polled (R130), `t` counts it (R134), and so does the bus's observer. -/
def tick (s : State) : State :=
  { poll s with seq := { s.seq with t := s.seq.t + 1 }, bus := { s.bus with now := s.bus.now + 1 } }

/-- The clock of `MemRead(a, 1)` (R12); the value read is `answer a s`. -/
def readCycle (a : Addr) (s : State) : State :=
  tick (record .read a (answer a s) s)

/-- The clock of `MemWrite(a, 1, v)` (R12). -/
def writeCycle (a : Addr) (v : Byte) (s : State) : State :=
  tick (record .write a v { s with mem := Memory.write s.mem a.toNat v })

/-- The clock of `DummyRead(a)` (R12): a read whose value is discarded, or no access when `DUMMY_BUS = none`. -/
def dummyRead (a : Addr) (s : State) : State :=
  match s.config.dummyBus with
  | .full => tick (record .dummyRead a (answer a s) s)
  | .none => tick s

/-- The clock of `DummyWrite(a, v)` (R12), or no access when `DUMMY_BUS = none`. -/
def dummyWrite (a : Addr) (v : Byte) (s : State) : State :=
  match s.config.dummyBus with
  | .full => tick (record .dummyWrite a v { s with mem := Memory.write s.mem a.toNat v })
  | .none => tick s

/-- The clock of `MemRead(PC, 1)` for a byte `v` of the instruction stream, PC not advanced (R161). -/
def readAtPc (v : Byte) (s : State) : State :=
  tick (record .read s.regs.pc v s)

/-- `FetchByte()` for a byte `v` of the instruction stream: `MemRead(PC, 1); PC <- PC +16 1` (R132). -/
def fetchCycle (v : Byte) (s : State) : State :=
  { readAtPc v s with regs := { s.regs with pc := s.regs.pc + 1#16 } }

/-! ## Registers and latches -/

/-- Writes registers and flags by a function of the register file. -/
def mapRegs (f : RegisterFile → RegisterFile) (s : State) : State :=
  { s with regs := f s.regs }

/-- `PC <- target`. -/
def setPc (target : Addr) (s : State) : State :=
  { s with regs := { s.regs with pc := target } }

/-- `SP <- v`. -/
def setSp (v : Byte) (s : State) : State :=
  { s with regs := { s.regs with sp := v } }

/-- `effective_address <- a`. -/
def setEa (a : Addr) (s : State) : State :=
  { s with seq := { s.seq with effectiveAddress := some a } }

/-- `operand <- v`. -/
def setOperand (v : Byte) (s : State) : State :=
  { s with seq := { s.seq with operand := some v } }

/-- `temp_latch <- v`. -/
def setTemp (v : Byte) (s : State) : State :=
  { s with seq := { s.seq with tempLatch := some v } }

/-- `crossed <- b`. -/
def setCrossed (b : Bool) (s : State) : State :=
  { s with seq := { s.seq with crossed := b } }

/-- `END`: the phase becomes Idle on this clock (R134). -/
def endInstr (s : State) : State :=
  { s with seq := { s.seq with phase := .idle } }

/-- A fatal fault ends the clock: `halted <- f` (R14, R43). -/
def raise (f : Fault) (s : State) : State :=
  { s with halted := some f }

/-- `StackAddr() = w16(0x01, SP)` (R13). -/
def stackAddr (s : State) : Addr := w16 0x01#8 s.regs.sp

/-- `Push(v)`: `MemWrite(StackAddr(), 1, v); SP <- SP -8 1` (R13, R250). -/
def push (v : Byte) (s : State) : State :=
  setSp (s.regs.sp - 1#8) (writeCycle (stackAddr s) v s)

/-- T1 of an instruction that the table holds (R133): the opcode byte `op` is fetched, the latches become unset, and
the instruction is in flight with one clock done. -/
def decodeClock (op : Byte) (e : Entry) (s : State) : State :=
  { fetchCycle op s with
    seq := { phase := .exec, t := 1, mnemonic := e.mnemonic, mode := e.mode, effectiveAddress := none,
             operand := none, tempLatch := none, crossed := false, baseCycles := e.cycles } }

/-! ## Fetching an instruction -/

/-- Byte `k` of the instruction at PC, as the Bus answers it in the clock that fetches it: clock `now + 1 + k`,
address `PC +16 k` (R132, log 15). -/
def instrByte (k : Nat) (s : State) : Byte :=
  answerAt (s.bus.now + 1 + k) (s.regs.pc + BitVec.ofNat 16 k) s

/-- The instruction at PC, or the fault its opcode byte raises (R104, R133, R310). -/
def fetchInstr (s : State) : Except Fault Instr :=
  match decodeBytes (instrByte 0 s) (instrByte 1 s) (instrByte 2 s) with
  | .ok i => .ok i
  | .error (.unknownOpcode op) => .error (.unknownOpcode op s.regs.pc)
  | .error (.unsupported mn mode) => .error (.unsupportedAddressingMode mn mode)
  | .error .truncated => .error .noSuchRow

/-! ## Taking an interrupt -/

/-- `$FFFA`, the NMI vector (R300). -/
def nmiVector : Addr := 0xFFFA#16

/-- `$FFFC`, the reset vector (R341). -/
def resetVector : Addr := 0xFFFC#16

/-- `$FFFE`, the IRQ and BRK vector (R300). -/
def irqVector : Addr := 0xFFFE#16

/-- T6 of an interrupt: `l := MemRead(vec); temp_latch <- l` (R302). -/
def vectorLow (vec : Addr) (s : State) : State :=
  setTemp (answer vec s) (readCycle vec s)

/-- T7 of an interrupt: `h := MemRead(vec +16 1); PC <- w16(h, l); I <- 1; END` (R302). -/
def vectorHigh (vec : Addr) (l : Byte) (s : State) : State :=
  let h := answer (vec + 1#16) s
  endInstr (mapRegs (fun r => { r with pc := w16 h l, i := true }) (readCycle (vec + 1#16) s))

/-- Taking an interrupt, clocks T3 to T7, the shape that NMI, IRQ and BRK share (R167, R302, R308): PC high, PC low
and the status byte (with the break bit `brk`) are pushed, PC is loaded from the vector, and I becomes 1. -/
def pushAndVector (vec : Addr) (brk : Bool) (s : State) : State :=
  let s3 := push (hi s.regs.pc) s
  let s4 := push (lo s3.regs.pc) s3
  let s5 := push (packP brk s4.regs) s4
  let s6 := vectorLow vec s5
  vectorHigh vec (answer vec s5) s6

/-- The state in which an interrupt sequence begins (R131). -/
def beginInterrupt (phase : Phase) (s : State) : State :=
  { s with seq := { s.seq with phase := phase, baseCycles := 7, t := 0, crossed := false } }

/-- The whole 7-clock sequence of an NMI or IRQ (R302): two dummy reads of PC, then the shared shape with break 0. -/
def interruptSequence (phase : Phase) (vec : Addr) (s : State) : State :=
  let s0 := beginInterrupt phase s
  let s1 := dummyRead s0.regs.pc s0
  let s2 := dummyRead s1.regs.pc s1
  pushAndVector vec false s2

/-- The arbiter takes a pending NMI: `nmi_pending <- 0`, then the sequence (R131, R303). -/
def takeNmi (s : State) : State :=
  interruptSequence .nmiSeq nmiVector { s with latches := { s.latches with nmiPending := false } }

/-- The arbiter takes an IRQ; the line is left as it is (R131, R304). -/
def takeIrq (s : State) : State :=
  interruptSequence .irqSeq irqVector s

/-- Returning from an interrupt, clocks T2 to T6 of RTI (R168, R290): the status byte and PC are pulled; bits 5 and 4
of the status byte are ignored. -/
def returnFromInterrupt (s : State) : State :=
  let s2 := dummyRead s.regs.pc s
  let s3 := setSp (s2.regs.sp + 1#8) (dummyRead (stackAddr s2) s2)
  let p := answer (stackAddr s3) s3
  let s4 := setSp (s3.regs.sp + 1#8) (setOperand p (readCycle (stackAddr s3) s3))
  let l := answer (stackAddr s4) s4
  let s5 := setSp (s4.regs.sp + 1#8) (setTemp l (readCycle (stackAddr s4) s4))
  let h := answer (stackAddr s5) s5
  endInstr (mapRegs (fun r => unpackP p { r with pc := w16 h l }) (readCycle (stackAddr s5) s5))

/-- What an Idle clock begins (R131, R306). -/
inductive Arbitration where
  | nmi | irq | instruction
  deriving DecidableEq, Repr

/-- The arbiter's choice at an Idle clock: NMI first, then IRQ when the level polled in this clock is asserted and
I = 0, else an instruction (R131, R306). -/
def arbitrate (s : State) : Arbitration :=
  if s.latches.nmiPending then .nmi
  else if s.irqIn && !s.regs.i then .irq
  else .instruction

/-- A clock absorbed by the DMA stall gate: nothing changes but the counter (R130, R140). The bus's observer counts
the clock (log 4). -/
def stalledClock (s : State) : State :=
  { s with stallCycles := s.stallCycles - 1, bus := { s.bus with now := s.bus.now + 1 } }

end Sys2Proof.Machine
end

