-- ==== Sys2Proof/Machine/Operands.lean ====
section
/-! DEFINITION. Every operand form of the thirteen addressing modes (R92) for each access kind (R101), clock by clock
as 40_sequencer.md orders the accesses. Each form takes the state after T1 and answers the state after the END clock.
The instruction bytes are the operand given to the form, so that each fetch records them. -/

namespace Sys2Proof.Machine

open Sys2Proof

/-- What a step answers. -/
abbrev Result := Host.Outcome State Fault Refusal

/-- The function of an R-kind mnemonic: it takes the operand byte (R137). -/
abbrev Apply := Byte → RegisterFile → RegisterFile

/-- The function of an M-kind mnemonic: from the byte and C to the result and the carry-out, if it has one (R137). -/
abbrev Modify := Byte → Bool → Byte × Option Bool

/-! ## The last clocks of each kind -/

/-- The END clock of an R-kind instruction whose operand byte is latched: `operand <- MemRead(a); Apply(operand)`. -/
def readFinal (apply : Apply) (a : Addr) (s : State) : State :=
  endInstr (mapRegs (apply (answer a s)) (setOperand (answer a s) (readCycle a s)))

/-- The END clock of an R-kind (indirect) instruction, whose `operand` holds the pointer: `Apply(MemRead(a))`
(R156, R158). -/
def readFinalLocal (apply : Apply) (a : Addr) (s : State) : State :=
  endInstr (mapRegs (apply (answer a s)) (readCycle a s))

/-- The END clock of a W-kind instruction: `MemWrite(a, reg)`. -/
def writeFinal (v : Byte) (a : Addr) (s : State) : State :=
  endInstr (writeCycle a v s)

/-- The read clock of an M-kind instruction: `operand <- MemRead(a); temp_latch <- operand` (R146). -/
def rmwRead (a : Addr) (s : State) : State :=
  setTemp (answer a s) (setOperand (answer a s) (readCycle a s))

/-- The apply clock of an M-kind instruction: `DummyWrite(a, original)`, `temp_latch <- result` (R146, R169). -/
def rmwApply (a : Addr) (original result : Byte) (s : State) : State :=
  setTemp result (dummyWrite a original s)

/-- The END clock of an M-kind instruction: `MemWrite(a, result); SetNZ(result); C <- cout` (R146, R169). -/
def rmwWrite (a : Addr) (result : Byte) (cout : Option Bool) (s : State) : State :=
  endInstr (mapRegs (fun r => setNZ result (setCarry cout r)) (writeCycle a result s))

/-- The last three clocks of an M-kind instruction at `a`. -/
def rmwFinal (modify : Modify) (a : Addr) (s : State) : State :=
  let v := answer a s
  let s1 := rmwRead a s
  let rc := modify v s1.regs.c
  rmwWrite a rc.1 rc.2 (rmwApply a v rc.1 s1)

/-! ## The address clocks of each mode: they answer the effective address with the state -/

/-- T2 of the zero-page modes: `effective_address <- zext_16(FetchByte())` (R144). -/
def addrZp (zp : Byte) (s : State) : Addr × State :=
  (zext16 zp, setEa (zext16 zp) (fetchCycle zp s))

/-- T2 and T3 of zero page,X and zero page,Y: the index is added mod 256 after a dummy read at the unindexed address
(R94, R147). -/
def addrZpIndexed (zp idx : Byte) (s : State) : Addr × State :=
  let s2 := (addrZp zp s).2
  (zext16 (zp + idx), setEa (zext16 (zp + idx)) (dummyRead (zext16 zp) s2))

/-- T2 and T3 of the absolute modes (R150). -/
def addrAbs (addr : Addr) (s : State) : Addr × State :=
  let s2 := setEa (zext16 (lo addr)) (fetchCycle (lo addr) s)
  (addr, setEa addr (fetchCycle (hi addr) s2))

/-- T2 and T3 of absolute,X and absolute,Y: as absolute, with the page-cross check (R153). -/
def addrAbsChecked (base : Addr) (idx : Byte) (s : State) : Addr × State :=
  (base + zext16 idx, setCrossed (!samePage base (base + zext16 idx)) (addrAbs base s).2)

/-- A clock that fixes an indexed address up: a dummy read at the unindexed `base`, then `effective_address <- ea`
(R153 T4, R154 T4, R158 T5, R159 T5, R170). -/
def fixup (base ea : Addr) (s : State) : State :=
  setEa ea (dummyRead base s)

/-- The address clocks of an indexed read: the fix-up clock is taken only when the index crosses a page (R153, R158). -/
def fixupIfCrossed (base ea : Addr) (s : State) : State :=
  if samePage base ea then setEa ea s else fixup base ea s

/-- T2 to T5 of (indirect,X): the pointer is read in page $00 after X is added mod 256 (R96, R156). -/
def addrIzx (zp : Byte) (s : State) : Addr × State :=
  let p := zp + s.regs.x
  let s2 := setOperand zp (fetchCycle zp s)
  let s3 := setOperand p (dummyRead (zext16 zp) s2)
  let l := answer (zext16 p) s3
  let s4 := setEa (zext16 l) (readCycle (zext16 p) s3)
  let h := answer (zext16 (p + 1#8)) s4
  (w16 h l, setEa (w16 h l) (readCycle (zext16 (p + 1#8)) s4))

/-- T2 to T4 of (indirect),Y: the base address is read through the zero-page pointer and the page-cross check made
(R96, R158); answers the base. -/
def addrIzyBase (zp : Byte) (s : State) : Addr × State :=
  let s2 := setOperand zp (fetchCycle zp s)
  let l := answer (zext16 zp) s2
  let s3 := setEa (zext16 l) (readCycle (zext16 zp) s2)
  let h := answer (zext16 (zp + 1#8)) s3
  let base := w16 h l
  (base, setCrossed (!samePage base (base + zext16 s.regs.y)) (setEa base (readCycle (zext16 (zp + 1#8)) s3)))

/-! ## The read forms (R kind) -/

/-- IMM (R143): `operand <- FetchByte(); Apply(operand)`. -/
def readImm (apply : Apply) (v : Byte) (s : State) : Result :=
  .next (endInstr (mapRegs (apply v) (setOperand v (fetchCycle v s))))

/-- ZP (R144). -/
def readZp (apply : Apply) (zp : Byte) (s : State) : Result :=
  let r := addrZp zp s
  .next (readFinal apply r.1 r.2)

/-- ZPX (R147). -/
def readZpx (apply : Apply) (zp : Byte) (s : State) : Result :=
  let r := addrZpIndexed zp s.regs.x s
  .next (readFinal apply r.1 r.2)

/-- ZPY (R147). -/
def readZpy (apply : Apply) (zp : Byte) (s : State) : Result :=
  let r := addrZpIndexed zp s.regs.y s
  .next (readFinal apply r.1 r.2)

/-- ABS (R150). -/
def readAbs (apply : Apply) (addr : Addr) (s : State) : Result :=
  let r := addrAbs addr s
  .next (readFinal apply r.1 r.2)

/-- ABX (R153). -/
def readAbx (apply : Apply) (base : Addr) (s : State) : Result :=
  let r := addrAbsChecked base s.regs.x s
  .next (readFinal apply r.1 (fixupIfCrossed base r.1 r.2))

/-- ABY (R153). -/
def readAby (apply : Apply) (base : Addr) (s : State) : Result :=
  let r := addrAbsChecked base s.regs.y s
  .next (readFinal apply r.1 (fixupIfCrossed base r.1 r.2))

/-- IZX (R156). -/
def readIzx (apply : Apply) (zp : Byte) (s : State) : Result :=
  let r := addrIzx zp s
  .next (readFinalLocal apply r.1 r.2)

/-- IZY (R158). -/
def readIzy (apply : Apply) (zp : Byte) (s : State) : Result :=
  let r := addrIzyBase zp s
  let ea := r.1 + zext16 s.regs.y
  .next (readFinalLocal apply ea (fixupIfCrossed r.1 ea r.2))

/-! ## The write forms (W kind); `value` is StoreValue, read from the register file, which no clock before the
write changes but for PC -/

/-- ZP (R145). -/
def writeZp (value : RegisterFile → Byte) (zp : Byte) (s : State) : Result :=
  let r := addrZp zp s
  .next (writeFinal (value r.2.regs) r.1 r.2)

/-- ZPX (R148). -/
def writeZpx (value : RegisterFile → Byte) (zp : Byte) (s : State) : Result :=
  let r := addrZpIndexed zp s.regs.x s
  .next (writeFinal (value r.2.regs) r.1 r.2)

/-- ZPY (R148). -/
def writeZpy (value : RegisterFile → Byte) (zp : Byte) (s : State) : Result :=
  let r := addrZpIndexed zp s.regs.y s
  .next (writeFinal (value r.2.regs) r.1 r.2)

/-- ABS (R151). -/
def writeAbs (value : RegisterFile → Byte) (addr : Addr) (s : State) : Result :=
  let r := addrAbs addr s
  .next (writeFinal (value r.2.regs) r.1 r.2)

/-- ABX (R154): the fix-up clock is always taken. -/
def writeAbx (value : RegisterFile → Byte) (base : Addr) (s : State) : Result :=
  let r := addrAbsChecked base s.regs.x s
  let s4 := fixup base r.1 r.2
  .next (writeFinal (value s4.regs) r.1 s4)

/-- ABY (R154): the fix-up clock is always taken. -/
def writeAby (value : RegisterFile → Byte) (base : Addr) (s : State) : Result :=
  let r := addrAbsChecked base s.regs.y s
  let s4 := fixup base r.1 r.2
  .next (writeFinal (value s4.regs) r.1 s4)

/-- IZX (R157). -/
def writeIzx (value : RegisterFile → Byte) (zp : Byte) (s : State) : Result :=
  let r := addrIzx zp s
  .next (writeFinal (value r.2.regs) r.1 r.2)

/-- IZY (R159): the fix-up clock is always taken. -/
def writeIzy (value : RegisterFile → Byte) (zp : Byte) (s : State) : Result :=
  let r := addrIzyBase zp s
  let ea := r.1 + zext16 s.regs.y
  let s5 := fixup r.1 ea r.2
  .next (writeFinal (value s5.regs) ea s5)

/-! ## The read-modify-write forms (M kind) and the accumulator form -/

/-- ACC (R142). -/
def modifyAcc (modify : Modify) (s : State) : Result :=
  let s2 := dummyRead s.regs.pc s
  let rc := modify s2.regs.a s2.regs.c
  .next (endInstr (mapRegs (fun r => setNZ rc.1 (setCarry rc.2 { r with a := rc.1 })) s2))

/-- ZP (R146). -/
def modifyZp (modify : Modify) (zp : Byte) (s : State) : Result :=
  let r := addrZp zp s
  .next (rmwFinal modify r.1 r.2)

/-- ZPX (R149). -/
def modifyZpx (modify : Modify) (zp : Byte) (s : State) : Result :=
  let r := addrZpIndexed zp s.regs.x s
  .next (rmwFinal modify r.1 r.2)

/-- ABS (R152). -/
def modifyAbs (modify : Modify) (addr : Addr) (s : State) : Result :=
  let r := addrAbs addr s
  .next (rmwFinal modify r.1 r.2)

/-- ABX (R155): the fix-up clock is always taken. -/
def modifyAbx (modify : Modify) (base : Addr) (s : State) : Result :=
  let r := addrAbsChecked base s.regs.x s
  .next (rmwFinal modify r.1 (fixup base r.1 r.2))

/-! ## The implied form -/

/-- IMP (R141): a dummy read of PC, then `Exec()`. -/
def implied (f : RegisterFile → RegisterFile) (s : State) : Result :=
  .next (endInstr (mapRegs f (dummyRead s.regs.pc s)))

end Sys2Proof.Machine
end

