-- ==== Sys2Proof/Machine/Arith.lean ====
section
/-! DEFINITION. Arithmetic, logic, compare, increment and decrement (42_arith_logic.md, R220 to R237). No function reads D (R32). -/

namespace Sys2Proof.Machine

open Sys2Proof

/-! ## Add and subtract -/

/-- ADC `Apply`: `(r, c, v) := AddC(A, m, C); A <- r; C <- c; V <- v; SetNZ(r)` (R222). -/
def applyAdc (m : Byte) (r : RegisterFile) : RegisterFile :=
  let s := addC r.a m r.c
  setNZ s.1 { r with a := s.1, c := s.2.1, v := s.2.2 }

/-- ADC IZX, opcode $61 (R222, R156). -/
def execAdcIzx (zp : Byte) (s : State) : Result :=
  readIzx applyAdc zp (decodeClock 0x61#8 ⟨.adc, .izx, 6⟩ s)

/-- ADC ZP, opcode $65 (R222, R144). -/
def execAdcZp (zp : Byte) (s : State) : Result :=
  readZp applyAdc zp (decodeClock 0x65#8 ⟨.adc, .zp, 3⟩ s)

/-- ADC IMM, opcode $69 (R222, R143). -/
def execAdcImm (v : Byte) (s : State) : Result :=
  readImm applyAdc v (decodeClock 0x69#8 ⟨.adc, .imm, 2⟩ s)

/-- ADC ABS, opcode $6D (R222, R150). -/
def execAdcAbs (addr : Addr) (s : State) : Result :=
  readAbs applyAdc addr (decodeClock 0x6D#8 ⟨.adc, .abs, 4⟩ s)

/-- ADC IZY, opcode $71 (R222, R158). -/
def execAdcIzy (zp : Byte) (s : State) : Result :=
  readIzy applyAdc zp (decodeClock 0x71#8 ⟨.adc, .izy, 5⟩ s)

/-- ADC ZPX, opcode $75 (R222, R147). -/
def execAdcZpx (zp : Byte) (s : State) : Result :=
  readZpx applyAdc zp (decodeClock 0x75#8 ⟨.adc, .zpx, 4⟩ s)

/-- ADC ABY, opcode $79 (R222, R153). -/
def execAdcAby (base : Addr) (s : State) : Result :=
  readAby applyAdc base (decodeClock 0x79#8 ⟨.adc, .aby, 4⟩ s)

/-- ADC ABX, opcode $7D (R222, R153). -/
def execAdcAbx (base : Addr) (s : State) : Result :=
  readAbx applyAdc base (decodeClock 0x7D#8 ⟨.adc, .abx, 4⟩ s)

/-- SBC `Apply`: `A - m - (1 - C)`, C no borrow, V signed overflow (R223). -/
def applySbc (m : Byte) (r : RegisterFile) : RegisterFile :=
  let s := subC r.a m r.c
  setNZ s.1 { r with a := s.1, c := s.2.1, v := s.2.2 }

/-- SBC IZX, opcode $E1 (R223, R156). -/
def execSbcIzx (zp : Byte) (s : State) : Result :=
  readIzx applySbc zp (decodeClock 0xE1#8 ⟨.sbc, .izx, 6⟩ s)

/-- SBC ZP, opcode $E5 (R223, R144). -/
def execSbcZp (zp : Byte) (s : State) : Result :=
  readZp applySbc zp (decodeClock 0xE5#8 ⟨.sbc, .zp, 3⟩ s)

/-- SBC IMM, opcode $E9 (R223, R143). -/
def execSbcImm (v : Byte) (s : State) : Result :=
  readImm applySbc v (decodeClock 0xE9#8 ⟨.sbc, .imm, 2⟩ s)

/-- SBC ABS, opcode $ED (R223, R150). -/
def execSbcAbs (addr : Addr) (s : State) : Result :=
  readAbs applySbc addr (decodeClock 0xED#8 ⟨.sbc, .abs, 4⟩ s)

/-- SBC IZY, opcode $F1 (R223, R158). -/
def execSbcIzy (zp : Byte) (s : State) : Result :=
  readIzy applySbc zp (decodeClock 0xF1#8 ⟨.sbc, .izy, 5⟩ s)

/-- SBC ZPX, opcode $F5 (R223, R147). -/
def execSbcZpx (zp : Byte) (s : State) : Result :=
  readZpx applySbc zp (decodeClock 0xF5#8 ⟨.sbc, .zpx, 4⟩ s)

/-- SBC ABY, opcode $F9 (R223, R153). -/
def execSbcAby (base : Addr) (s : State) : Result :=
  readAby applySbc base (decodeClock 0xF9#8 ⟨.sbc, .aby, 4⟩ s)

/-- SBC ABX, opcode $FD (R223, R153). -/
def execSbcAbx (base : Addr) (s : State) : Result :=
  readAbx applySbc base (decodeClock 0xFD#8 ⟨.sbc, .abx, 4⟩ s)

/-! ## Logic -/

/-- AND `Apply`: `A <- A & m; SetNZ(A)` (R224). -/
def applyAnd (m : Byte) (r : RegisterFile) : RegisterFile :=
  setNZ (r.a &&& m) { r with a := r.a &&& m }

/-- AND IZX, opcode $21 (R224, R156). -/
def execAndIzx (zp : Byte) (s : State) : Result :=
  readIzx applyAnd zp (decodeClock 0x21#8 ⟨.and, .izx, 6⟩ s)

/-- AND ZP, opcode $25 (R224, R144). -/
def execAndZp (zp : Byte) (s : State) : Result :=
  readZp applyAnd zp (decodeClock 0x25#8 ⟨.and, .zp, 3⟩ s)

/-- AND IMM, opcode $29 (R224, R143). -/
def execAndImm (v : Byte) (s : State) : Result :=
  readImm applyAnd v (decodeClock 0x29#8 ⟨.and, .imm, 2⟩ s)

/-- AND ABS, opcode $2D (R224, R150). -/
def execAndAbs (addr : Addr) (s : State) : Result :=
  readAbs applyAnd addr (decodeClock 0x2D#8 ⟨.and, .abs, 4⟩ s)

/-- AND IZY, opcode $31 (R224, R158). -/
def execAndIzy (zp : Byte) (s : State) : Result :=
  readIzy applyAnd zp (decodeClock 0x31#8 ⟨.and, .izy, 5⟩ s)

/-- AND ZPX, opcode $35 (R224, R147). -/
def execAndZpx (zp : Byte) (s : State) : Result :=
  readZpx applyAnd zp (decodeClock 0x35#8 ⟨.and, .zpx, 4⟩ s)

/-- AND ABY, opcode $39 (R224, R153). -/
def execAndAby (base : Addr) (s : State) : Result :=
  readAby applyAnd base (decodeClock 0x39#8 ⟨.and, .aby, 4⟩ s)

/-- AND ABX, opcode $3D (R224, R153). -/
def execAndAbx (base : Addr) (s : State) : Result :=
  readAbx applyAnd base (decodeClock 0x3D#8 ⟨.and, .abx, 4⟩ s)

/-- ORA `Apply`: `A <- A | m; SetNZ(A)` (R225). -/
def applyOra (m : Byte) (r : RegisterFile) : RegisterFile :=
  setNZ (r.a ||| m) { r with a := r.a ||| m }

/-- ORA IZX, opcode $01 (R225, R156). -/
def execOraIzx (zp : Byte) (s : State) : Result :=
  readIzx applyOra zp (decodeClock 0x01#8 ⟨.ora, .izx, 6⟩ s)

/-- ORA ZP, opcode $05 (R225, R144). -/
def execOraZp (zp : Byte) (s : State) : Result :=
  readZp applyOra zp (decodeClock 0x05#8 ⟨.ora, .zp, 3⟩ s)

/-- ORA IMM, opcode $09 (R225, R143). -/
def execOraImm (v : Byte) (s : State) : Result :=
  readImm applyOra v (decodeClock 0x09#8 ⟨.ora, .imm, 2⟩ s)

/-- ORA ABS, opcode $0D (R225, R150). -/
def execOraAbs (addr : Addr) (s : State) : Result :=
  readAbs applyOra addr (decodeClock 0x0D#8 ⟨.ora, .abs, 4⟩ s)

/-- ORA IZY, opcode $11 (R225, R158). -/
def execOraIzy (zp : Byte) (s : State) : Result :=
  readIzy applyOra zp (decodeClock 0x11#8 ⟨.ora, .izy, 5⟩ s)

/-- ORA ZPX, opcode $15 (R225, R147). -/
def execOraZpx (zp : Byte) (s : State) : Result :=
  readZpx applyOra zp (decodeClock 0x15#8 ⟨.ora, .zpx, 4⟩ s)

/-- ORA ABY, opcode $19 (R225, R153). -/
def execOraAby (base : Addr) (s : State) : Result :=
  readAby applyOra base (decodeClock 0x19#8 ⟨.ora, .aby, 4⟩ s)

/-- ORA ABX, opcode $1D (R225, R153). -/
def execOraAbx (base : Addr) (s : State) : Result :=
  readAbx applyOra base (decodeClock 0x1D#8 ⟨.ora, .abx, 4⟩ s)

/-- EOR `Apply`: `A <- A ^ m; SetNZ(A)` (R226). -/
def applyEor (m : Byte) (r : RegisterFile) : RegisterFile :=
  setNZ (r.a ^^^ m) { r with a := r.a ^^^ m }

/-- EOR IZX, opcode $41 (R226, R156). -/
def execEorIzx (zp : Byte) (s : State) : Result :=
  readIzx applyEor zp (decodeClock 0x41#8 ⟨.eor, .izx, 6⟩ s)

/-- EOR ZP, opcode $45 (R226, R144). -/
def execEorZp (zp : Byte) (s : State) : Result :=
  readZp applyEor zp (decodeClock 0x45#8 ⟨.eor, .zp, 3⟩ s)

/-- EOR IMM, opcode $49 (R226, R143). -/
def execEorImm (v : Byte) (s : State) : Result :=
  readImm applyEor v (decodeClock 0x49#8 ⟨.eor, .imm, 2⟩ s)

/-- EOR ABS, opcode $4D (R226, R150). -/
def execEorAbs (addr : Addr) (s : State) : Result :=
  readAbs applyEor addr (decodeClock 0x4D#8 ⟨.eor, .abs, 4⟩ s)

/-- EOR IZY, opcode $51 (R226, R158). -/
def execEorIzy (zp : Byte) (s : State) : Result :=
  readIzy applyEor zp (decodeClock 0x51#8 ⟨.eor, .izy, 5⟩ s)

/-- EOR ZPX, opcode $55 (R226, R147). -/
def execEorZpx (zp : Byte) (s : State) : Result :=
  readZpx applyEor zp (decodeClock 0x55#8 ⟨.eor, .zpx, 4⟩ s)

/-- EOR ABY, opcode $59 (R226, R153). -/
def execEorAby (base : Addr) (s : State) : Result :=
  readAby applyEor base (decodeClock 0x59#8 ⟨.eor, .aby, 4⟩ s)

/-- EOR ABX, opcode $5D (R226, R153). -/
def execEorAbx (base : Addr) (s : State) : Result :=
  readAbx applyEor base (decodeClock 0x5D#8 ⟨.eor, .abx, 4⟩ s)

/-- BIT `Apply`: `Z <- ((A & m) == 0); N <- m[7]; V <- m[6]` (R227). -/
def applyBit (m : Byte) (r : RegisterFile) : RegisterFile :=
  { r with z := (r.a &&& m) == 0#8, n := bit m 7, v := bit m 6 }

/-- BIT ZP, opcode $24 (R227, R144). -/
def execBitZp (zp : Byte) (s : State) : Result :=
  readZp applyBit zp (decodeClock 0x24#8 ⟨.bit, .zp, 3⟩ s)

/-- BIT ABS, opcode $2C (R227, R150). -/
def execBitAbs (addr : Addr) (s : State) : Result :=
  readAbs applyBit addr (decodeClock 0x2C#8 ⟨.bit, .abs, 4⟩ s)

/-! ## Compare -/

/-- CMP `Apply`: `Compare(A, m)` (R228). -/
def applyCmp (m : Byte) (r : RegisterFile) : RegisterFile :=
  compareFlags r.a m r

/-- CMP IZX, opcode $C1 (R228, R156). -/
def execCmpIzx (zp : Byte) (s : State) : Result :=
  readIzx applyCmp zp (decodeClock 0xC1#8 ⟨.cmp, .izx, 6⟩ s)

/-- CMP ZP, opcode $C5 (R228, R144). -/
def execCmpZp (zp : Byte) (s : State) : Result :=
  readZp applyCmp zp (decodeClock 0xC5#8 ⟨.cmp, .zp, 3⟩ s)

/-- CMP IMM, opcode $C9 (R228, R143). -/
def execCmpImm (v : Byte) (s : State) : Result :=
  readImm applyCmp v (decodeClock 0xC9#8 ⟨.cmp, .imm, 2⟩ s)

/-- CMP ABS, opcode $CD (R228, R150). -/
def execCmpAbs (addr : Addr) (s : State) : Result :=
  readAbs applyCmp addr (decodeClock 0xCD#8 ⟨.cmp, .abs, 4⟩ s)

/-- CMP IZY, opcode $D1 (R228, R158). -/
def execCmpIzy (zp : Byte) (s : State) : Result :=
  readIzy applyCmp zp (decodeClock 0xD1#8 ⟨.cmp, .izy, 5⟩ s)

/-- CMP ZPX, opcode $D5 (R228, R147). -/
def execCmpZpx (zp : Byte) (s : State) : Result :=
  readZpx applyCmp zp (decodeClock 0xD5#8 ⟨.cmp, .zpx, 4⟩ s)

/-- CMP ABY, opcode $D9 (R228, R153). -/
def execCmpAby (base : Addr) (s : State) : Result :=
  readAby applyCmp base (decodeClock 0xD9#8 ⟨.cmp, .aby, 4⟩ s)

/-- CMP ABX, opcode $DD (R228, R153). -/
def execCmpAbx (base : Addr) (s : State) : Result :=
  readAbx applyCmp base (decodeClock 0xDD#8 ⟨.cmp, .abx, 4⟩ s)

/-- CPX `Apply`: `Compare(X, m)` (R229). -/
def applyCpx (m : Byte) (r : RegisterFile) : RegisterFile :=
  compareFlags r.x m r

/-- CPX IMM, opcode $E0 (R229, R143). -/
def execCpxImm (v : Byte) (s : State) : Result :=
  readImm applyCpx v (decodeClock 0xE0#8 ⟨.cpx, .imm, 2⟩ s)

/-- CPX ZP, opcode $E4 (R229, R144). -/
def execCpxZp (zp : Byte) (s : State) : Result :=
  readZp applyCpx zp (decodeClock 0xE4#8 ⟨.cpx, .zp, 3⟩ s)

/-- CPX ABS, opcode $EC (R229, R150). -/
def execCpxAbs (addr : Addr) (s : State) : Result :=
  readAbs applyCpx addr (decodeClock 0xEC#8 ⟨.cpx, .abs, 4⟩ s)

/-- CPY `Apply`: `Compare(Y, m)` (R230). -/
def applyCpy (m : Byte) (r : RegisterFile) : RegisterFile :=
  compareFlags r.y m r

/-- CPY IMM, opcode $C0 (R230, R143). -/
def execCpyImm (v : Byte) (s : State) : Result :=
  readImm applyCpy v (decodeClock 0xC0#8 ⟨.cpy, .imm, 2⟩ s)

/-- CPY ZP, opcode $C4 (R230, R144). -/
def execCpyZp (zp : Byte) (s : State) : Result :=
  readZp applyCpy zp (decodeClock 0xC4#8 ⟨.cpy, .zp, 3⟩ s)

/-- CPY ABS, opcode $CC (R230, R150). -/
def execCpyAbs (addr : Addr) (s : State) : Result :=
  readAbs applyCpy addr (decodeClock 0xCC#8 ⟨.cpy, .abs, 4⟩ s)

/-! ## Increment and decrement -/

/-- INC `Modify`: `(v +8 1, none)` (R231). -/
def incModify (v : Byte) (_ : Bool) : Byte × Option Bool :=
  (v + 1#8, none)

/-- INC ZP, opcode $E6 (R231, R146). -/
def execIncZp (zp : Byte) (s : State) : Result :=
  modifyZp incModify zp (decodeClock 0xE6#8 ⟨.inc, .zp, 5⟩ s)

/-- INC ABS, opcode $EE (R231, R152). -/
def execIncAbs (addr : Addr) (s : State) : Result :=
  modifyAbs incModify addr (decodeClock 0xEE#8 ⟨.inc, .abs, 6⟩ s)

/-- INC ZPX, opcode $F6 (R231, R149). -/
def execIncZpx (zp : Byte) (s : State) : Result :=
  modifyZpx incModify zp (decodeClock 0xF6#8 ⟨.inc, .zpx, 6⟩ s)

/-- INC ABX, opcode $FE (R231, R155). -/
def execIncAbx (base : Addr) (s : State) : Result :=
  modifyAbx incModify base (decodeClock 0xFE#8 ⟨.inc, .abx, 7⟩ s)

/-- DEC `Modify`: `(v -8 1, none)` (R232). -/
def decModify (v : Byte) (_ : Bool) : Byte × Option Bool :=
  (v - 1#8, none)

/-- DEC ZP, opcode $C6 (R232, R146). -/
def execDecZp (zp : Byte) (s : State) : Result :=
  modifyZp decModify zp (decodeClock 0xC6#8 ⟨.dec, .zp, 5⟩ s)

/-- DEC ABS, opcode $CE (R232, R152). -/
def execDecAbs (addr : Addr) (s : State) : Result :=
  modifyAbs decModify addr (decodeClock 0xCE#8 ⟨.dec, .abs, 6⟩ s)

/-- DEC ZPX, opcode $D6 (R232, R149). -/
def execDecZpx (zp : Byte) (s : State) : Result :=
  modifyZpx decModify zp (decodeClock 0xD6#8 ⟨.dec, .zpx, 6⟩ s)

/-- DEC ABX, opcode $DE (R232, R155). -/
def execDecAbx (base : Addr) (s : State) : Result :=
  modifyAbx decModify base (decodeClock 0xDE#8 ⟨.dec, .abx, 7⟩ s)

/-- INX `Exec`: `X <- X +8 1; SetNZ(X)` (R233). -/
def inxExec (r : RegisterFile) : RegisterFile :=
  setNZ (r.x + 1#8) { r with x := r.x + 1#8 }

/-- INX IMP, opcode $E8 (R233, R141). -/
def execInx (s : State) : Result :=
  implied inxExec (decodeClock 0xE8#8 ⟨.inx, .imp, 2⟩ s)

/-- INY `Exec`: `Y <- Y +8 1; SetNZ(Y)` (R234). -/
def inyExec (r : RegisterFile) : RegisterFile :=
  setNZ (r.y + 1#8) { r with y := r.y + 1#8 }

/-- INY IMP, opcode $C8 (R234, R141). -/
def execIny (s : State) : Result :=
  implied inyExec (decodeClock 0xC8#8 ⟨.iny, .imp, 2⟩ s)

/-- DEX `Exec`: `X <- X -8 1; SetNZ(X)` (R235). -/
def dexExec (r : RegisterFile) : RegisterFile :=
  setNZ (r.x - 1#8) { r with x := r.x - 1#8 }

/-- DEX IMP, opcode $CA (R235, R141). -/
def execDex (s : State) : Result :=
  implied dexExec (decodeClock 0xCA#8 ⟨.dex, .imp, 2⟩ s)

/-- DEY `Exec`: `Y <- Y -8 1; SetNZ(Y)` (R236). -/
def deyExec (r : RegisterFile) : RegisterFile :=
  setNZ (r.y - 1#8) { r with y := r.y - 1#8 }

/-- DEY IMP, opcode $88 (R236, R141). -/
def execDey (s : State) : Result :=
  implied deyExec (decodeClock 0x88#8 ⟨.dey, .imp, 2⟩ s)

end Sys2Proof.Machine
end

