-- ==== Sys2Proof/Machine/Control.lean ====
section
/-! DEFINITION. Branches, jumps, subroutine call and return (45_control.md, R260 to R271). -/

namespace Sys2Proof.Machine

open Sys2Proof

/-- T2 of a branch: `operand <- FetchByte()` (R160). -/
def branchFetch (offset : Byte) (s : State) : State :=
  setOperand offset (fetchCycle offset s)

/-- T3 of a taken branch, without its end: the old page is latched and PC becomes the target (R160). -/
def branchTake (offset : Byte) (s : State) : State :=
  let target := s.regs.pc + sext16 offset
  setPc target (setCrossed (!samePage s.regs.pc target) (setEa target (setTemp (hi s.regs.pc)
    (dummyRead s.regs.pc s))))

/-- T4 of a branch taken across a page: a dummy read at the target's low byte in the old page (R160). -/
def branchFix (oldPage : Byte) (s : State) : State :=
  endInstr (dummyRead (w16 oldPage (lo s.regs.pc)) s)

/-- A branch after T1: 2 clocks not taken, 3 taken, 4 taken across a page (R160, R260). The condition is read on T2. -/
def branch (cond : RegisterFile → Bool) (offset : Byte) (s : State) : Result :=
  let s2 := branchFetch offset s
  if cond s2.regs then
    let s3 := branchTake offset s2
    if s3.seq.crossed then .next (branchFix (hi s2.regs.pc) s3) else .next (endInstr s3)
  else .next (endInstr s2)

/-- The condition of BCC (R261). -/
def bccCond (r : RegisterFile) : Bool := r.c == false

/-- BCC REL, opcode $90 (R261, R160). -/
def execBcc (offset : Byte) (s : State) : Result :=
  branch bccCond offset (decodeClock 0x90#8 ⟨.bcc, .rel, 2⟩ s)

/-- The condition of BCS (R262). -/
def bcsCond (r : RegisterFile) : Bool := r.c == true

/-- BCS REL, opcode $B0 (R262, R160). -/
def execBcs (offset : Byte) (s : State) : Result :=
  branch bcsCond offset (decodeClock 0xB0#8 ⟨.bcs, .rel, 2⟩ s)

/-- The condition of BEQ (R263). -/
def beqCond (r : RegisterFile) : Bool := r.z == true

/-- BEQ REL, opcode $F0 (R263, R160). -/
def execBeq (offset : Byte) (s : State) : Result :=
  branch beqCond offset (decodeClock 0xF0#8 ⟨.beq, .rel, 2⟩ s)

/-- The condition of BNE (R264). -/
def bneCond (r : RegisterFile) : Bool := r.z == false

/-- BNE REL, opcode $D0 (R264, R160). -/
def execBne (offset : Byte) (s : State) : Result :=
  branch bneCond offset (decodeClock 0xD0#8 ⟨.bne, .rel, 2⟩ s)

/-- The condition of BMI (R265). -/
def bmiCond (r : RegisterFile) : Bool := r.n == true

/-- BMI REL, opcode $30 (R265, R160). -/
def execBmi (offset : Byte) (s : State) : Result :=
  branch bmiCond offset (decodeClock 0x30#8 ⟨.bmi, .rel, 2⟩ s)

/-- The condition of BPL (R266). -/
def bplCond (r : RegisterFile) : Bool := r.n == false

/-- BPL REL, opcode $10 (R266, R160). -/
def execBpl (offset : Byte) (s : State) : Result :=
  branch bplCond offset (decodeClock 0x10#8 ⟨.bpl, .rel, 2⟩ s)

/-- The condition of BVC (R267). -/
def bvcCond (r : RegisterFile) : Bool := r.v == false

/-- BVC REL, opcode $50 (R267, R160). -/
def execBvc (offset : Byte) (s : State) : Result :=
  branch bvcCond offset (decodeClock 0x50#8 ⟨.bvc, .rel, 2⟩ s)

/-- The condition of BVS (R268). -/
def bvsCond (r : RegisterFile) : Bool := r.v == true

/-- BVS REL, opcode $70 (R268, R160). -/
def execBvs (offset : Byte) (s : State) : Result :=
  branch bvsCond offset (decodeClock 0x70#8 ⟨.bvs, .rel, 2⟩ s)

/-- T3 of JMP absolute: `h := MemRead(PC); PC <- w16(h, temp_latch)` (R161). -/
def jumpFinal (h l : Byte) (s : State) : State :=
  endInstr (setPc (w16 h l) (readAtPc h s))

/-- JMP absolute after T1 (R161, R269). -/
def jumpAbs (target : Addr) (s : State) : Result :=
  let s2 := setTemp (lo target) (fetchCycle (lo target) s)
  .next (jumpFinal (hi target) (lo target) s2)

/-- The address of a JMP indirect pointer's high byte: it wraps within the pointer's page (R97). -/
def pointerHigh (ptr : Addr) : Addr := w16 (hi ptr) (lo ptr + 1#8)

/-- T4 of JMP indirect: `tl := MemRead(ptr); temp_latch <- tl` (R162). -/
def jumpIndLow (ptr : Addr) (s : State) : State :=
  setTemp (answer ptr s) (readCycle ptr s)

/-- T5 of JMP indirect: the high byte is read in the pointer's page and PC is written (R97, R162). -/
def jumpIndHigh (ptr : Addr) (l : Byte) (s : State) : State :=
  let h := answer (pointerHigh ptr) s
  endInstr (setPc (w16 h l) (readCycle (pointerHigh ptr) s))

/-- JMP (indirect) after T1 (R162, R269). -/
def jumpInd (ptr : Addr) (s : State) : Result :=
  let s3 := (addrAbs ptr s).2
  .next (jumpIndHigh ptr (answer ptr s3) (jumpIndLow ptr s3))

/-- JMP ABS, opcode $4C (R269, R161). -/
def execJmpAbs (target : Addr) (s : State) : Result :=
  jumpAbs target (decodeClock 0x4C#8 ⟨.jmp, .abs, 3⟩ s)

/-- JMP IND, opcode $6C (R269, R162). -/
def execJmpInd (ptr : Addr) (s : State) : Result :=
  jumpInd ptr (decodeClock 0x6C#8 ⟨.jmp, .ind, 5⟩ s)

/-- T4 of JSR: a dummy read of the stack, `PC <- PC -16 1` (R163). -/
def jsrBack (s : State) : State :=
  setPc (s.regs.pc - 1#16) (dummyRead (stackAddr s) s)

/-- T5 of JSR: `Push(hi(PC))` (R163). -/
def jsrPushHigh (s : State) : State :=
  push (hi s.regs.pc) s

/-- T6 of JSR: `Push(lo(PC)); PC <- w16(h, l); END` (R163). -/
def jsrFinal (h l : Byte) (s : State) : State :=
  endInstr (setPc (w16 h l) (push (lo s.regs.pc) s))

/-- JSR after T1: both target bytes are fetched before the pushes (R163, R270, C5). -/
def callForm (target : Addr) (s : State) : Result :=
  let s2 := setTemp (lo target) (fetchCycle (lo target) s)
  let s3 := setOperand (hi target) (fetchCycle (hi target) s2)
  .next (jsrFinal (hi target) (lo target) (jsrPushHigh (jsrBack s3)))

/-- JSR ABS, opcode $20 (R270, R163). -/
def execJsr (target : Addr) (s : State) : Result :=
  callForm target (decodeClock 0x20#8 ⟨.jsr, .abs, 6⟩ s)

/-- The dummy clock of a pull: a dummy read of the stack, then `SP <- SP +8 1` (R164, R168). -/
def pullDummy (s : State) : State :=
  setSp (s.regs.sp + 1#8) (dummyRead (stackAddr s) s)

/-- T4 of RTS: `l := MemRead(StackAddr()); temp_latch <- l; SP <- SP +8 1` (R164). -/
def rtsLow (s : State) : State :=
  setSp (s.regs.sp + 1#8) (setTemp (answer (stackAddr s) s) (readCycle (stackAddr s) s))

/-- T5 of RTS: `h := MemRead(StackAddr()); PC <- w16(h, l)` (R164). -/
def rtsHigh (l : Byte) (s : State) : State :=
  setPc (w16 (answer (stackAddr s) s) l) (readCycle (stackAddr s) s)

/-- T6 of RTS: a dummy read of PC, `PC <- PC +16 1; END` (R164). -/
def rtsFinal (s : State) : State :=
  endInstr (setPc (s.regs.pc + 1#16) (dummyRead s.regs.pc s))

/-- RTS after T1 (R164, R271). -/
def returnForm (s : State) : Result :=
  let s3 := pullDummy (dummyRead s.regs.pc s)
  .next (rtsFinal (rtsHigh (answer (stackAddr s3) s3) (rtsLow s3)))

/-- RTS IMP, opcode $60 (R271, R164). -/
def execRts (s : State) : Result :=
  returnForm (decodeClock 0x60#8 ⟨.rts, .imp, 6⟩ s)

end Sys2Proof.Machine
end

