-- ==== Sys2Proof/Machine/Loads.lean ====
section
/-! DEFINITION. Loads, stores and register transfers (41_load_store_transfer.md, R200 to R212). -/

namespace Sys2Proof.Machine

open Sys2Proof

/-! ## Loads -/

/-- LDA `Apply`: `A <- m; SetNZ(A)` (R201). -/
def applyLda (m : Byte) (r : RegisterFile) : RegisterFile :=
  setNZ m { r with a := m }

/-- LDA IZX, opcode $A1 (R201, R156). -/
def execLdaIzx (zp : Byte) (s : State) : Result :=
  readIzx applyLda zp (decodeClock 0xA1#8 ⟨.lda, .izx, 6⟩ s)

/-- LDA ZP, opcode $A5 (R201, R144). -/
def execLdaZp (zp : Byte) (s : State) : Result :=
  readZp applyLda zp (decodeClock 0xA5#8 ⟨.lda, .zp, 3⟩ s)

/-- LDA IMM, opcode $A9 (R201, R143). -/
def execLdaImm (v : Byte) (s : State) : Result :=
  readImm applyLda v (decodeClock 0xA9#8 ⟨.lda, .imm, 2⟩ s)

/-- LDA ABS, opcode $AD (R201, R150). -/
def execLdaAbs (addr : Addr) (s : State) : Result :=
  readAbs applyLda addr (decodeClock 0xAD#8 ⟨.lda, .abs, 4⟩ s)

/-- LDA IZY, opcode $B1 (R201, R158). -/
def execLdaIzy (zp : Byte) (s : State) : Result :=
  readIzy applyLda zp (decodeClock 0xB1#8 ⟨.lda, .izy, 5⟩ s)

/-- LDA ZPX, opcode $B5 (R201, R147). -/
def execLdaZpx (zp : Byte) (s : State) : Result :=
  readZpx applyLda zp (decodeClock 0xB5#8 ⟨.lda, .zpx, 4⟩ s)

/-- LDA ABY, opcode $B9 (R201, R153). -/
def execLdaAby (base : Addr) (s : State) : Result :=
  readAby applyLda base (decodeClock 0xB9#8 ⟨.lda, .aby, 4⟩ s)

/-- LDA ABX, opcode $BD (R201, R153). -/
def execLdaAbx (base : Addr) (s : State) : Result :=
  readAbx applyLda base (decodeClock 0xBD#8 ⟨.lda, .abx, 4⟩ s)

/-- LDX `Apply`: `X <- m; SetNZ(X)` (R202). -/
def applyLdx (m : Byte) (r : RegisterFile) : RegisterFile :=
  setNZ m { r with x := m }

/-- LDX IMM, opcode $A2 (R202, R143). -/
def execLdxImm (v : Byte) (s : State) : Result :=
  readImm applyLdx v (decodeClock 0xA2#8 ⟨.ldx, .imm, 2⟩ s)

/-- LDX ZP, opcode $A6 (R202, R144). -/
def execLdxZp (zp : Byte) (s : State) : Result :=
  readZp applyLdx zp (decodeClock 0xA6#8 ⟨.ldx, .zp, 3⟩ s)

/-- LDX ABS, opcode $AE (R202, R150). -/
def execLdxAbs (addr : Addr) (s : State) : Result :=
  readAbs applyLdx addr (decodeClock 0xAE#8 ⟨.ldx, .abs, 4⟩ s)

/-- LDX ZPY, opcode $B6 (R202, R147). -/
def execLdxZpy (zp : Byte) (s : State) : Result :=
  readZpy applyLdx zp (decodeClock 0xB6#8 ⟨.ldx, .zpy, 4⟩ s)

/-- LDX ABY, opcode $BE (R202, R153). -/
def execLdxAby (base : Addr) (s : State) : Result :=
  readAby applyLdx base (decodeClock 0xBE#8 ⟨.ldx, .aby, 4⟩ s)

/-- LDY `Apply`: `Y <- m; SetNZ(Y)` (R203). -/
def applyLdy (m : Byte) (r : RegisterFile) : RegisterFile :=
  setNZ m { r with y := m }

/-- LDY IMM, opcode $A0 (R203, R143). -/
def execLdyImm (v : Byte) (s : State) : Result :=
  readImm applyLdy v (decodeClock 0xA0#8 ⟨.ldy, .imm, 2⟩ s)

/-- LDY ZP, opcode $A4 (R203, R144). -/
def execLdyZp (zp : Byte) (s : State) : Result :=
  readZp applyLdy zp (decodeClock 0xA4#8 ⟨.ldy, .zp, 3⟩ s)

/-- LDY ABS, opcode $AC (R203, R150). -/
def execLdyAbs (addr : Addr) (s : State) : Result :=
  readAbs applyLdy addr (decodeClock 0xAC#8 ⟨.ldy, .abs, 4⟩ s)

/-- LDY ZPX, opcode $B4 (R203, R147). -/
def execLdyZpx (zp : Byte) (s : State) : Result :=
  readZpx applyLdy zp (decodeClock 0xB4#8 ⟨.ldy, .zpx, 4⟩ s)

/-- LDY ABX, opcode $BC (R203, R153). -/
def execLdyAbx (base : Addr) (s : State) : Result :=
  readAbx applyLdy base (decodeClock 0xBC#8 ⟨.ldy, .abx, 4⟩ s)

/-! ## Stores -/

/-- STA `StoreValue` (R204). -/
def storeSta (r : RegisterFile) : Byte := r.a

/-- STA IZX, opcode $81 (R204, R157). -/
def execStaIzx (zp : Byte) (s : State) : Result :=
  writeIzx storeSta zp (decodeClock 0x81#8 ⟨.sta, .izx, 6⟩ s)

/-- STA ZP, opcode $85 (R204, R145). -/
def execStaZp (zp : Byte) (s : State) : Result :=
  writeZp storeSta zp (decodeClock 0x85#8 ⟨.sta, .zp, 3⟩ s)

/-- STA ABS, opcode $8D (R204, R151). -/
def execStaAbs (addr : Addr) (s : State) : Result :=
  writeAbs storeSta addr (decodeClock 0x8D#8 ⟨.sta, .abs, 4⟩ s)

/-- STA IZY, opcode $91 (R204, R159). -/
def execStaIzy (zp : Byte) (s : State) : Result :=
  writeIzy storeSta zp (decodeClock 0x91#8 ⟨.sta, .izy, 6⟩ s)

/-- STA ZPX, opcode $95 (R204, R148). -/
def execStaZpx (zp : Byte) (s : State) : Result :=
  writeZpx storeSta zp (decodeClock 0x95#8 ⟨.sta, .zpx, 4⟩ s)

/-- STA ABY, opcode $99 (R204, R154). -/
def execStaAby (base : Addr) (s : State) : Result :=
  writeAby storeSta base (decodeClock 0x99#8 ⟨.sta, .aby, 5⟩ s)

/-- STA ABX, opcode $9D (R204, R154). -/
def execStaAbx (base : Addr) (s : State) : Result :=
  writeAbx storeSta base (decodeClock 0x9D#8 ⟨.sta, .abx, 5⟩ s)

/-- STX `StoreValue` (R205). -/
def storeStx (r : RegisterFile) : Byte := r.x

/-- STX ZP, opcode $86 (R205, R145). -/
def execStxZp (zp : Byte) (s : State) : Result :=
  writeZp storeStx zp (decodeClock 0x86#8 ⟨.stx, .zp, 3⟩ s)

/-- STX ABS, opcode $8E (R205, R151). -/
def execStxAbs (addr : Addr) (s : State) : Result :=
  writeAbs storeStx addr (decodeClock 0x8E#8 ⟨.stx, .abs, 4⟩ s)

/-- STX ZPY, opcode $96 (R205, R148). -/
def execStxZpy (zp : Byte) (s : State) : Result :=
  writeZpy storeStx zp (decodeClock 0x96#8 ⟨.stx, .zpy, 4⟩ s)

/-- STY `StoreValue` (R206). -/
def storeSty (r : RegisterFile) : Byte := r.y

/-- STY ZP, opcode $84 (R206, R145). -/
def execStyZp (zp : Byte) (s : State) : Result :=
  writeZp storeSty zp (decodeClock 0x84#8 ⟨.sty, .zp, 3⟩ s)

/-- STY ABS, opcode $8C (R206, R151). -/
def execStyAbs (addr : Addr) (s : State) : Result :=
  writeAbs storeSty addr (decodeClock 0x8C#8 ⟨.sty, .abs, 4⟩ s)

/-- STY ZPX, opcode $94 (R206, R148). -/
def execStyZpx (zp : Byte) (s : State) : Result :=
  writeZpx storeSty zp (decodeClock 0x94#8 ⟨.sty, .zpx, 4⟩ s)

/-! ## Transfers -/

/-- TAX `Exec`: `X <- A; SetNZ(X)` (R207). -/
def taxExec (r : RegisterFile) : RegisterFile :=
  setNZ r.a { r with x := r.a }

/-- TAX IMP, opcode $AA (R207, R141). -/
def execTax (s : State) : Result :=
  implied taxExec (decodeClock 0xAA#8 ⟨.tax, .imp, 2⟩ s)

/-- TAY `Exec`: `Y <- A; SetNZ(Y)` (R208). -/
def tayExec (r : RegisterFile) : RegisterFile :=
  setNZ r.a { r with y := r.a }

/-- TAY IMP, opcode $A8 (R208, R141). -/
def execTay (s : State) : Result :=
  implied tayExec (decodeClock 0xA8#8 ⟨.tay, .imp, 2⟩ s)

/-- TXA `Exec`: `A <- X; SetNZ(A)` (R209). -/
def txaExec (r : RegisterFile) : RegisterFile :=
  setNZ r.x { r with a := r.x }

/-- TXA IMP, opcode $8A (R209, R141). -/
def execTxa (s : State) : Result :=
  implied txaExec (decodeClock 0x8A#8 ⟨.txa, .imp, 2⟩ s)

/-- TYA `Exec`: `A <- Y; SetNZ(A)` (R210). -/
def tyaExec (r : RegisterFile) : RegisterFile :=
  setNZ r.y { r with a := r.y }

/-- TYA IMP, opcode $98 (R210, R141). -/
def execTya (s : State) : Result :=
  implied tyaExec (decodeClock 0x98#8 ⟨.tya, .imp, 2⟩ s)

/-- TSX `Exec`: `X <- SP; SetNZ(X)` (R211). -/
def tsxExec (r : RegisterFile) : RegisterFile :=
  setNZ r.sp { r with x := r.sp }

/-- TSX IMP, opcode $BA (R211, R141). -/
def execTsx (s : State) : Result :=
  implied tsxExec (decodeClock 0xBA#8 ⟨.tsx, .imp, 2⟩ s)

/-- TXS `Exec`: `SP <- X`, no flag (R212). -/
def txsExec (r : RegisterFile) : RegisterFile :=
  { r with sp := r.x }

/-- TXS IMP, opcode $9A (R212, R141). -/
def execTxs (s : State) : Result :=
  implied txsExec (decodeClock 0x9A#8 ⟨.txs, .imp, 2⟩ s)

end Sys2Proof.Machine
end

