-- ==== Sys2Proof/Machine/Shifts.lean ====
section
/-! DEFINITION. Shifts and rotates (43_shift_rotate.md, R240 to R244). -/

namespace Sys2Proof.Machine

open Sys2Proof

/-- ASL `Modify`: `((v << 1) & 0xFF, v[7])` (R241). -/
def aslModify (v : Byte) (_ : Bool) : Byte × Option Bool :=
  (v <<< 1, some (bit v 7))

/-- ASL ZP, opcode $06 (R241, R146). -/
def execAslZp (zp : Byte) (s : State) : Result :=
  modifyZp aslModify zp (decodeClock 0x06#8 ⟨.asl, .zp, 5⟩ s)

/-- ASL ACC, opcode $0A (R241, R142). -/
def execAslAcc (s : State) : Result :=
  modifyAcc aslModify (decodeClock 0x0A#8 ⟨.asl, .acc, 2⟩ s)

/-- ASL ABS, opcode $0E (R241, R152). -/
def execAslAbs (addr : Addr) (s : State) : Result :=
  modifyAbs aslModify addr (decodeClock 0x0E#8 ⟨.asl, .abs, 6⟩ s)

/-- ASL ZPX, opcode $16 (R241, R149). -/
def execAslZpx (zp : Byte) (s : State) : Result :=
  modifyZpx aslModify zp (decodeClock 0x16#8 ⟨.asl, .zpx, 6⟩ s)

/-- ASL ABX, opcode $1E (R241, R155). -/
def execAslAbx (base : Addr) (s : State) : Result :=
  modifyAbx aslModify base (decodeClock 0x1E#8 ⟨.asl, .abx, 7⟩ s)

/-- LSR `Modify`: `(v >> 1, v[0])` (R242). -/
def lsrModify (v : Byte) (_ : Bool) : Byte × Option Bool :=
  (v >>> 1, some (bit v 0))

/-- LSR ZP, opcode $46 (R242, R146). -/
def execLsrZp (zp : Byte) (s : State) : Result :=
  modifyZp lsrModify zp (decodeClock 0x46#8 ⟨.lsr, .zp, 5⟩ s)

/-- LSR ACC, opcode $4A (R242, R142). -/
def execLsrAcc (s : State) : Result :=
  modifyAcc lsrModify (decodeClock 0x4A#8 ⟨.lsr, .acc, 2⟩ s)

/-- LSR ABS, opcode $4E (R242, R152). -/
def execLsrAbs (addr : Addr) (s : State) : Result :=
  modifyAbs lsrModify addr (decodeClock 0x4E#8 ⟨.lsr, .abs, 6⟩ s)

/-- LSR ZPX, opcode $56 (R242, R149). -/
def execLsrZpx (zp : Byte) (s : State) : Result :=
  modifyZpx lsrModify zp (decodeClock 0x56#8 ⟨.lsr, .zpx, 6⟩ s)

/-- LSR ABX, opcode $5E (R242, R155). -/
def execLsrAbx (base : Addr) (s : State) : Result :=
  modifyAbx lsrModify base (decodeClock 0x5E#8 ⟨.lsr, .abx, 7⟩ s)

/-- ROL `Modify`: `(((v << 1) | C) & 0xFF, v[7])` (R243). -/
def rolModify (v : Byte) (c : Bool) : Byte × Option Bool :=
  (v <<< 1 ||| flagByte c, some (bit v 7))

/-- ROL ZP, opcode $26 (R243, R146). -/
def execRolZp (zp : Byte) (s : State) : Result :=
  modifyZp rolModify zp (decodeClock 0x26#8 ⟨.rol, .zp, 5⟩ s)

/-- ROL ACC, opcode $2A (R243, R142). -/
def execRolAcc (s : State) : Result :=
  modifyAcc rolModify (decodeClock 0x2A#8 ⟨.rol, .acc, 2⟩ s)

/-- ROL ABS, opcode $2E (R243, R152). -/
def execRolAbs (addr : Addr) (s : State) : Result :=
  modifyAbs rolModify addr (decodeClock 0x2E#8 ⟨.rol, .abs, 6⟩ s)

/-- ROL ZPX, opcode $36 (R243, R149). -/
def execRolZpx (zp : Byte) (s : State) : Result :=
  modifyZpx rolModify zp (decodeClock 0x36#8 ⟨.rol, .zpx, 6⟩ s)

/-- ROL ABX, opcode $3E (R243, R155). -/
def execRolAbx (base : Addr) (s : State) : Result :=
  modifyAbx rolModify base (decodeClock 0x3E#8 ⟨.rol, .abx, 7⟩ s)

/-- ROR `Modify`: `((C << 7) | (v >> 1), v[0])` (R244). -/
def rorModify (v : Byte) (c : Bool) : Byte × Option Bool :=
  (flagByte c <<< 7 ||| v >>> 1, some (bit v 0))

/-- ROR ZP, opcode $66 (R244, R146). -/
def execRorZp (zp : Byte) (s : State) : Result :=
  modifyZp rorModify zp (decodeClock 0x66#8 ⟨.ror, .zp, 5⟩ s)

/-- ROR ACC, opcode $6A (R244, R142). -/
def execRorAcc (s : State) : Result :=
  modifyAcc rorModify (decodeClock 0x6A#8 ⟨.ror, .acc, 2⟩ s)

/-- ROR ABS, opcode $6E (R244, R152). -/
def execRorAbs (addr : Addr) (s : State) : Result :=
  modifyAbs rorModify addr (decodeClock 0x6E#8 ⟨.ror, .abs, 6⟩ s)

/-- ROR ZPX, opcode $76 (R244, R149). -/
def execRorZpx (zp : Byte) (s : State) : Result :=
  modifyZpx rorModify zp (decodeClock 0x76#8 ⟨.ror, .zpx, 6⟩ s)

/-- ROR ABX, opcode $7E (R244, R155). -/
def execRorAbx (base : Addr) (s : State) : Result :=
  modifyAbx rorModify base (decodeClock 0x7E#8 ⟨.ror, .abx, 7⟩ s)

end Sys2Proof.Machine
end

