-- ==== Sys2Proof/Machine/Stack.lean ====
section
/-! DEFINITION. Stack instructions (44_stack.md, R250 to R254). -/

namespace Sys2Proof.Machine

open Sys2Proof

/-- PHA and PHP after T1: a dummy read of PC, then the push of `value` (R165). -/
def pushForm (value : RegisterFile → Byte) (s : State) : Result :=
  let s2 := dummyRead s.regs.pc s
  .next (endInstr (push (value s2.regs) s2))

/-- PLA and PLP after T1: a dummy read of PC, a dummy read of the stack before SP is incremented, then the pulled byte
is applied (R166). -/
def pullForm (apply : Apply) (s : State) : Result :=
  let s2 := dummyRead s.regs.pc s
  let s3 := setSp (s2.regs.sp + 1#8) (dummyRead (stackAddr s2) s2)
  let v := answer (stackAddr s3) s3
  .next (endInstr (mapRegs (apply v) (readCycle (stackAddr s3) s3)))

/-- PHA `StoreValue` (R251). -/
def storePha (r : RegisterFile) : Byte := r.a

/-- PHA IMP, opcode $48 (R251, R165). -/
def execPha (s : State) : Result :=
  pushForm storePha (decodeClock 0x48#8 ⟨.pha, .imp, 3⟩ s)

/-- PHP `StoreValue`: `PackP(1)` (R252). -/
def storePhp (r : RegisterFile) : Byte := packP true r

/-- PHP IMP, opcode $08 (R252, R165). -/
def execPhp (s : State) : Result :=
  pushForm storePhp (decodeClock 0x08#8 ⟨.php, .imp, 3⟩ s)

/-- PLA: `A <- v; SetNZ(A)` (R253). -/
def applyPla (v : Byte) (r : RegisterFile) : RegisterFile :=
  setNZ v { r with a := v }

/-- PLA IMP, opcode $68 (R253, R166). -/
def execPla (s : State) : Result :=
  pullForm applyPla (decodeClock 0x68#8 ⟨.pla, .imp, 4⟩ s)

/-- PLP: `UnpackP(v)` (R254). -/
def applyPlp (v : Byte) (r : RegisterFile) : RegisterFile :=
  unpackP v r

/-- PLP IMP, opcode $28 (R254, R166). -/
def execPlp (s : State) : Result :=
  pullForm applyPlp (decodeClock 0x28#8 ⟨.plp, .imp, 4⟩ s)

end Sys2Proof.Machine
end

