-- ==== Sys2Proof/Machine/System.lean ====
section
/-! DEFINITION. Flag instructions, NOP, BRK and RTI (46_flags_system.md, R280 to R290). -/

namespace Sys2Proof.Machine

open Sys2Proof

/-- CLC `Exec`: `C <- 0` (R281). -/
def clcExec (r : RegisterFile) : RegisterFile :=
  { r with c := false }

/-- CLC IMP, opcode $18 (R281, R141). -/
def execClc (s : State) : Result :=
  implied clcExec (decodeClock 0x18#8 ⟨.clc, .imp, 2⟩ s)

/-- CLD `Exec`: `D <- 0` (R282). -/
def cldExec (r : RegisterFile) : RegisterFile :=
  { r with d := false }

/-- CLD IMP, opcode $D8 (R282, R141). -/
def execCld (s : State) : Result :=
  implied cldExec (decodeClock 0xD8#8 ⟨.cld, .imp, 2⟩ s)

/-- CLI `Exec`: `I <- 0` (R283). -/
def cliExec (r : RegisterFile) : RegisterFile :=
  { r with i := false }

/-- CLI IMP, opcode $58 (R283, R141). -/
def execCli (s : State) : Result :=
  implied cliExec (decodeClock 0x58#8 ⟨.cli, .imp, 2⟩ s)

/-- CLV `Exec`: `V <- 0` (R284). -/
def clvExec (r : RegisterFile) : RegisterFile :=
  { r with v := false }

/-- CLV IMP, opcode $B8 (R284, R141). -/
def execClv (s : State) : Result :=
  implied clvExec (decodeClock 0xB8#8 ⟨.clv, .imp, 2⟩ s)

/-- SEC `Exec`: `C <- 1` (R285). -/
def secExec (r : RegisterFile) : RegisterFile :=
  { r with c := true }

/-- SEC IMP, opcode $38 (R285, R141). -/
def execSec (s : State) : Result :=
  implied secExec (decodeClock 0x38#8 ⟨.sec, .imp, 2⟩ s)

/-- SED `Exec`: `D <- 1` (R286). -/
def sedExec (r : RegisterFile) : RegisterFile :=
  { r with d := true }

/-- SED IMP, opcode $F8 (R286, R141). -/
def execSed (s : State) : Result :=
  implied sedExec (decodeClock 0xF8#8 ⟨.sed, .imp, 2⟩ s)

/-- SEI `Exec`: `I <- 1` (R287). -/
def seiExec (r : RegisterFile) : RegisterFile :=
  { r with i := true }

/-- SEI IMP, opcode $78 (R287, R141). -/
def execSei (s : State) : Result :=
  implied seiExec (decodeClock 0x78#8 ⟨.sei, .imp, 2⟩ s)

/-- NOP `Exec`: nothing (R288). -/
def nopExec (r : RegisterFile) : RegisterFile :=
  r

/-- NOP IMP, opcode $EA (R288, R141). -/
def execNop (s : State) : Result :=
  implied nopExec (decodeClock 0xEA#8 ⟨.nop, .imp, 2⟩ s)

/-- T2 of BRK: a dummy read of PC, then `PC <- PC +16 1`: the padding byte is skipped (R167, R289). -/
def brkSkip (s : State) : State :=
  setPc (s.regs.pc + 1#16) (dummyRead s.regs.pc s)

/-- BRK after T1: the interrupt shape with the break bit set, to the IRQ vector, whatever I holds (R167, R289, R305). -/
def breakForm (s : State) : Result :=
  .next (pushAndVector irqVector true (brkSkip s))

/-- BRK IMP, opcode $00 (R289, R167). -/
def execBrk (s : State) : Result :=
  breakForm (decodeClock 0x00#8 ⟨.brk, .imp, 7⟩ s)

/-- RTI IMP, opcode $40 (R290, R168). -/
def execRti (s : State) : Result :=
  .next (returnFromInterrupt (decodeClock 0x40#8 ⟨.rti, .imp, 6⟩ s))

end Sys2Proof.Machine
end

