-- ==== Sys2Proof/WellFormed.lean ====
section
/-! DEFINITION. Which terms are well-formed: a mnemonic and mode combination that the decode table holds (R100,
R106), an instruction made of one, and parameters with the values R8 allows. -/

namespace Sys2Proof

/-- Some opcode of the table has this mnemonic and mode (R100). The combinations it does not have, such as LDX with
(indirect),Y, cannot be decoded (R106). -/
def supported (mn : Mnemonic) (mode : Mode) : Bool :=
  opcodeMap.any fun row => row.any fun o =>
    match o with
    | some e => e.mnemonic == mn && e.mode == mode
    | none => false

/-- An instruction is well-formed when the table holds its mnemonic in its mode. Its operands are bytes and 16-bit
addresses by their types, and every value of them is legal (R66, R93). -/
def Instr.wf (i : Instr) : Bool :=
  supported i.mnemonic i.mode

/-- R8: `STALL_BITS` is a positive integer or unbounded. -/
def Config.wf (c : Config) : Bool :=
  match c.stallBits with
  | none => true
  | some w => decide (0 < w)

end Sys2Proof
end

