-- ==== Sys2Proof/Machine/Clock.lean ====
section
/-! DEFINITION. The clock-level machine: `Clock()` (R130), the Idle clock (R131), Decode (R133) and every row of the
sequence tables R141 to R168 and R302, chosen by the phase, the mnemonic, the mode and `t` (R135). `exec` folds these
clocks into one step (R6); the two are stated to agree in the obligations. -/

namespace Sys2Proof.Machine

open Sys2Proof

/-- The sequence tables of 40_sequencer.md, one per rule R141 to R168. -/
inductive Sequence where
  | implied | accumulator | immediate
  | zpR | zpW | zpM | zpIndexedR | zpIndexedW | zpIndexedM
  | absR | absW | absM | absIndexedR | absIndexedW | absIndexedM
  | izxR | izxW | izyR | izyW
  | branch | jmpAbs | jmpInd | jsr | rts | push | pull | brk | rti
  deriving DecidableEq, Repr

/-- The access kind of a mnemonic (R101). -/
inductive Kind where
  | read | write | modify | other
  deriving DecidableEq, Repr

/-- R101, the kind of each mnemonic. -/
def kindOf : Mnemonic → Kind
  | .lda | .ldx | .ldy | .adc | .sbc | .and | .ora | .eor | .cmp | .cpx | .cpy | .bit => .read
  | .sta | .stx | .sty => .write
  | .asl | .lsr | .rol | .ror | .inc | .dec => .modify
  | .tax | .tay | .txa | .tya | .tsx | .txs | .inx | .iny | .dex | .dey | .pha | .php | .pla | .plp
  | .bcc | .bcs | .beq | .bne | .bmi | .bpl | .bvc | .bvs | .jmp | .jsr | .rts
  | .clc | .cld | .cli | .clv | .sec | .sed | .sei | .nop | .brk | .rti => .other

/-- The sequence of an R-kind mnemonic in a mode (R135). -/
def readSequence : Mode → Option Sequence
  | .imm => some .immediate
  | .zp => some .zpR
  | .zpx | .zpy => some .zpIndexedR
  | .abs => some .absR
  | .abx | .aby => some .absIndexedR
  | .izx => some .izxR
  | .izy => some .izyR
  | .imp | .acc | .ind | .rel => none

/-- The sequence of a W-kind mnemonic in a mode (R135). -/
def writeSequence : Mode → Option Sequence
  | .zp => some .zpW
  | .zpx | .zpy => some .zpIndexedW
  | .abs => some .absW
  | .abx | .aby => some .absIndexedW
  | .izx => some .izxW
  | .izy => some .izyW
  | .imp | .acc | .imm | .ind | .rel => none

/-- The sequence of an M-kind mnemonic in a mode (R135). -/
def modifySequence : Mode → Option Sequence
  | .acc => some .accumulator
  | .zp => some .zpM
  | .zpx => some .zpIndexedM
  | .abs => some .absM
  | .abx => some .absIndexedM
  | .imp | .imm | .zpy | .aby | .ind | .izx | .izy | .rel => none

/-- The sequence of the remaining mnemonics (R135). -/
def otherSequence (mn : Mnemonic) (mode : Mode) : Option Sequence :=
  match mode with
  | .rel => some .branch
  | .ind => some .jmpInd
  | .abs => if mn = .jsr then some .jsr else some .jmpAbs
  | .imp =>
    match mn with
    | .pha | .php => some .push
    | .pla | .plp => some .pull
    | .rts => some .rts
    | .rti => some .rti
    | .brk => some .brk
    | _ => some .implied
  | .acc | .imm | .zp | .zpx | .zpy | .abx | .aby | .izx | .izy => none

/-- The sequence of a table entry; `none` for a combination the table does not hold (R106, R135, R172). -/
def sequenceOf (mn : Mnemonic) (mode : Mode) : Option Sequence :=
  if supported mn mode then
    match kindOf mn with
    | .read => readSequence mode
    | .write => writeSequence mode
    | .modify => modifySequence mode
    | .other => otherSequence mn mode
  else none

/-! ## The per-mnemonic functions (R137) -/

/-- `Apply` of an R-kind mnemonic, and of PLA and PLP (R137, R166). -/
def applyOf : Mnemonic → Option Apply
  | .lda => some applyLda
  | .ldx => some applyLdx
  | .ldy => some applyLdy
  | .adc => some applyAdc
  | .sbc => some applySbc
  | .and => some applyAnd
  | .ora => some applyOra
  | .eor => some applyEor
  | .bit => some applyBit
  | .cmp => some applyCmp
  | .cpx => some applyCpx
  | .cpy => some applyCpy
  | .pla => some applyPla
  | .plp => some applyPlp
  | _ => none

/-- `StoreValue` of a W-kind mnemonic, and of PHA and PHP (R137, R165). -/
def storeOf : Mnemonic → Option (RegisterFile → Byte)
  | .sta => some storeSta
  | .stx => some storeStx
  | .sty => some storeSty
  | .pha => some storePha
  | .php => some storePhp
  | _ => none

/-- `Modify` of an M-kind mnemonic (R137). -/
def modifyOf : Mnemonic → Option Modify
  | .asl => some aslModify
  | .lsr => some lsrModify
  | .rol => some rolModify
  | .ror => some rorModify
  | .inc => some incModify
  | .dec => some decModify
  | _ => none

/-- `Exec` of an IMP mnemonic of R141 (R137). -/
def execOf : Mnemonic → Option (RegisterFile → RegisterFile)
  | .tax => some taxExec
  | .tay => some tayExec
  | .txa => some txaExec
  | .tya => some tyaExec
  | .tsx => some tsxExec
  | .txs => some txsExec
  | .inx => some inxExec
  | .iny => some inyExec
  | .dex => some dexExec
  | .dey => some deyExec
  | .clc => some clcExec
  | .cld => some cldExec
  | .cli => some cliExec
  | .clv => some clvExec
  | .sec => some secExec
  | .sed => some sedExec
  | .sei => some seiExec
  | .nop => some nopExec
  | _ => none

/-- The condition of a branch mnemonic (R260). -/
def condOf : Mnemonic → Option (RegisterFile → Bool)
  | .bcc => some bccCond
  | .bcs => some bcsCond
  | .beq => some beqCond
  | .bne => some bneCond
  | .bmi => some bmiCond
  | .bpl => some bplCond
  | .bvc => some bvcCond
  | .bvs => some bvsCond
  | _ => none

/-- Runs a row with its mnemonic's function; a mnemonic that has none is an instruction invoked with a mode it does not
define (R311). -/
def withFunction {α : Type} (f : Option α) (s : State) (row : α → State) : State :=
  match f with
  | some g => row g
  | none => raise (.unsupportedAddressingMode s.seq.mnemonic s.seq.mode) s

/-! ## Reading a latch: an unset one is a fault (R39) -/

/-- Runs a row with the address latch. -/
def withEa (s : State) (row : Addr → State) : State :=
  match s.seq.effectiveAddress with
  | some a => row a
  | none => raise .unsetField s

/-- Runs a row with the data latch. -/
def withOperand (s : State) (row : Byte → State) : State :=
  match s.seq.operand with
  | some v => row v
  | none => raise .unsetField s

/-- Runs a row with the second data latch. -/
def withTemp (s : State) (row : Byte → State) : State :=
  match s.seq.tempLatch with
  | some v => row v
  | none => raise .unsetField s

/-- `idx`: X for ZPX, ABX and IZX, Y for ZPY, ABY and IZY (40_sequencer.md, conventions). -/
def indexOf (s : State) : Byte :=
  match s.seq.mode with
  | .zpy | .aby | .izy => s.regs.y
  | .imp | .acc | .imm | .zp | .zpx | .abs | .abx | .ind | .izx | .rel => s.regs.x

/-! ## Rows shared by several tables -/

/-- The row `operand <- MemRead(effective_address); Apply(operand); END`. -/
def rowRead (s : State) : State :=
  withEa s fun a => withFunction (applyOf s.seq.mnemonic) s fun f => readFinal f a s

/-- The row `v := MemRead(effective_address); Apply(v); END`. -/
def rowReadLocal (s : State) : State :=
  withEa s fun a => withFunction (applyOf s.seq.mnemonic) s fun f => readFinalLocal f a s

/-- The row `MemWrite(effective_address, reg); END`. -/
def rowWrite (s : State) : State :=
  withEa s fun a => withFunction (storeOf s.seq.mnemonic) s fun f => writeFinal (f s.regs) a s

/-- The row `operand <- MemRead(effective_address); temp_latch <- operand`. -/
def rowRmwRead (s : State) : State :=
  withEa s fun a => rmwRead a s

/-- The row `DummyWrite(effective_address, operand); (temp_latch, cout) := Modify(temp_latch)`. -/
def rowRmwApply (s : State) : State :=
  withEa s fun a => withOperand s fun v => withTemp s fun w =>
    withFunction (modifyOf s.seq.mnemonic) s fun f => rmwApply a v (f w s.regs.c).1 s

/-- The row `MemWrite(effective_address, temp_latch); SetNZ(temp_latch); C <- cout; END`; `cout` is the carry-out of
the original byte, which `operand` still holds (R169). -/
def rowRmwWrite (s : State) : State :=
  withEa s fun a => withOperand s fun v => withTemp s fun w =>
    withFunction (modifyOf s.seq.mnemonic) s fun f => rmwWrite a w (f v s.regs.c).2 s

/-- The row `effective_address <- zext_16(FetchByte())`. -/
def rowFetchZp (s : State) : State :=
  let b := answer s.regs.pc s
  setEa (zext16 b) (fetchCycle b s)

/-- The row `h := FetchByte(); effective_address <- w16(h, lo(effective_address))`. -/
def rowFetchHigh (s : State) : State :=
  withEa s fun a =>
    let h := answer s.regs.pc s
    setEa (w16 h (lo a)) (fetchCycle h s)

/-- The row of R153 T3: as `rowFetchHigh`, with the page-cross check. -/
def rowFetchHighChecked (s : State) : State :=
  withEa s fun a =>
    let h := answer s.regs.pc s
    let base := w16 h (lo a)
    setCrossed (!samePage base (base + zext16 (indexOf s))) (setEa base (fetchCycle h s))

/-- The row of R147 T3: a dummy read at the unindexed address, the index added mod 256. -/
def rowIndexZp (s : State) : State :=
  withEa s fun a => setEa (zext16 (lo a + indexOf s)) (dummyRead a s)

/-- The row of R154 T4: a dummy read at the unindexed address, the index added mod 2^16. -/
def rowFixup (s : State) : State :=
  withEa s fun a => fixup a (a + zext16 (indexOf s)) s

/-- The row `operand <- FetchByte()`. -/
def rowFetchOperand (s : State) : State :=
  let v := answer s.regs.pc s
  setOperand v (fetchCycle v s)

/-- The row `l := FetchByte(); temp_latch <- l`. -/
def rowFetchTemp (s : State) : State :=
  let l := answer s.regs.pc s
  setTemp l (fetchCycle l s)

/-- The row `DummyRead(PC)`. -/
def rowDummyPc (s : State) : State :=
  dummyRead s.regs.pc s

/-! ## The sequence tables: the row after `t` clocks are done, so that `t = 1` selects T2 -/

/-- R141. -/
def rowImplied (s : State) : State :=
  match s.seq.t with
  | 1 => withFunction (execOf s.seq.mnemonic) s fun f => endInstr (mapRegs f (dummyRead s.regs.pc s))
  | _ => raise .noSuchRow s

/-- R142. -/
def rowAccumulator (s : State) : State :=
  match s.seq.t with
  | 1 => withFunction (modifyOf s.seq.mnemonic) s fun f =>
      let rc := f s.regs.a s.regs.c
      endInstr (mapRegs (fun r => setNZ rc.1 (setCarry rc.2 { r with a := rc.1 })) (dummyRead s.regs.pc s))
  | _ => raise .noSuchRow s

/-- R143. -/
def rowImmediate (s : State) : State :=
  match s.seq.t with
  | 1 => withFunction (applyOf s.seq.mnemonic) s fun f =>
      let v := answer s.regs.pc s
      endInstr (mapRegs (f v) (setOperand v (fetchCycle v s)))
  | _ => raise .noSuchRow s

/-- R144. -/
def rowZpR (s : State) : State :=
  match s.seq.t with
  | 1 => rowFetchZp s
  | 2 => rowRead s
  | _ => raise .noSuchRow s

/-- R145. -/
def rowZpW (s : State) : State :=
  match s.seq.t with
  | 1 => rowFetchZp s
  | 2 => rowWrite s
  | _ => raise .noSuchRow s

/-- R146. -/
def rowZpM (s : State) : State :=
  match s.seq.t with
  | 1 => rowFetchZp s
  | 2 => rowRmwRead s
  | 3 => rowRmwApply s
  | 4 => rowRmwWrite s
  | _ => raise .noSuchRow s

/-- R147. -/
def rowZpIndexedR (s : State) : State :=
  match s.seq.t with
  | 1 => rowFetchZp s
  | 2 => rowIndexZp s
  | 3 => rowRead s
  | _ => raise .noSuchRow s

/-- R148. -/
def rowZpIndexedW (s : State) : State :=
  match s.seq.t with
  | 1 => rowFetchZp s
  | 2 => rowIndexZp s
  | 3 => rowWrite s
  | _ => raise .noSuchRow s

/-- R149. -/
def rowZpIndexedM (s : State) : State :=
  match s.seq.t with
  | 1 => rowFetchZp s
  | 2 => rowIndexZp s
  | 3 => rowRmwRead s
  | 4 => rowRmwApply s
  | 5 => rowRmwWrite s
  | _ => raise .noSuchRow s

/-- R150. -/
def rowAbsR (s : State) : State :=
  match s.seq.t with
  | 1 => rowFetchZp s
  | 2 => rowFetchHigh s
  | 3 => rowRead s
  | _ => raise .noSuchRow s

/-- R151. -/
def rowAbsW (s : State) : State :=
  match s.seq.t with
  | 1 => rowFetchZp s
  | 2 => rowFetchHigh s
  | 3 => rowWrite s
  | _ => raise .noSuchRow s

/-- R152. -/
def rowAbsM (s : State) : State :=
  match s.seq.t with
  | 1 => rowFetchZp s
  | 2 => rowFetchHigh s
  | 3 => rowRmwRead s
  | 4 => rowRmwApply s
  | 5 => rowRmwWrite s
  | _ => raise .noSuchRow s

/-- R153: without a cross T4 reads at the indexed address; with one, T4 is the fix-up and T5 reads. -/
def rowAbsIndexedR (s : State) : State :=
  match s.seq.t with
  | 1 => rowFetchZp s
  | 2 => rowFetchHighChecked s
  | 3 =>
    if s.seq.crossed then rowFixup s
    else withEa s fun a => rowRead (setEa (a + zext16 (indexOf s)) s)
  | 4 => if s.seq.crossed then rowRead s else raise .noSuchRow s
  | _ => raise .noSuchRow s

/-- R154. -/
def rowAbsIndexedW (s : State) : State :=
  match s.seq.t with
  | 1 => rowFetchZp s
  | 2 => rowFetchHighChecked s
  | 3 => rowFixup s
  | 4 => rowWrite s
  | _ => raise .noSuchRow s

/-- R155. -/
def rowAbsIndexedM (s : State) : State :=
  match s.seq.t with
  | 1 => rowFetchZp s
  | 2 => rowFetchHighChecked s
  | 3 => rowFixup s
  | 4 => rowRmwRead s
  | 5 => rowRmwApply s
  | 6 => rowRmwWrite s
  | _ => raise .noSuchRow s

/-- R156 T3: a dummy read at the pointer before X is added. -/
def rowIzxIndex (s : State) : State :=
  withOperand s fun p => setOperand (p + s.regs.x) (dummyRead (zext16 p) s)

/-- R156 T4, R158 T3: the pointer's low byte. -/
def rowPointerLow (s : State) : State :=
  withOperand s fun p => setEa (zext16 (answer (zext16 p) s)) (readCycle (zext16 p) s)

/-- R156 T5: the pointer's high byte, in page $00. -/
def rowPointerHigh (s : State) : State :=
  withOperand s fun p => withEa s fun a =>
    setEa (w16 (answer (zext16 (p + 1#8)) s) (lo a)) (readCycle (zext16 (p + 1#8)) s)

/-- R158 T4: as `rowPointerHigh`, with the page-cross check. -/
def rowPointerHighChecked (s : State) : State :=
  withOperand s fun p => withEa s fun a =>
    let base := w16 (answer (zext16 (p + 1#8)) s) (lo a)
    setCrossed (!samePage base (base + zext16 s.regs.y)) (setEa base (readCycle (zext16 (p + 1#8)) s))

/-- R156. -/
def rowIzxR (s : State) : State :=
  match s.seq.t with
  | 1 => rowFetchOperand s
  | 2 => rowIzxIndex s
  | 3 => rowPointerLow s
  | 4 => rowPointerHigh s
  | 5 => rowReadLocal s
  | _ => raise .noSuchRow s

/-- R157. -/
def rowIzxW (s : State) : State :=
  match s.seq.t with
  | 1 => rowFetchOperand s
  | 2 => rowIzxIndex s
  | 3 => rowPointerLow s
  | 4 => rowPointerHigh s
  | 5 => rowWrite s
  | _ => raise .noSuchRow s

/-- R158. -/
def rowIzyR (s : State) : State :=
  match s.seq.t with
  | 1 => rowFetchOperand s
  | 2 => rowPointerLow s
  | 3 => rowPointerHighChecked s
  | 4 =>
    if s.seq.crossed then rowFixup s
    else withEa s fun a => rowReadLocal (setEa (a + zext16 (indexOf s)) s)
  | 5 => if s.seq.crossed then rowReadLocal s else raise .noSuchRow s
  | _ => raise .noSuchRow s

/-- R159. -/
def rowIzyW (s : State) : State :=
  match s.seq.t with
  | 1 => rowFetchOperand s
  | 2 => rowPointerLow s
  | 3 => rowPointerHighChecked s
  | 4 => rowFixup s
  | 5 => rowWrite s
  | _ => raise .noSuchRow s

/-- R160. -/
def rowBranch (s : State) : State :=
  match s.seq.t with
  | 1 => withFunction (condOf s.seq.mnemonic) s fun cond =>
      let s2 := branchFetch (answer s.regs.pc s) s
      if cond s2.regs then s2 else endInstr s2
  | 2 => withOperand s fun offset =>
      let s3 := branchTake offset s
      if s3.seq.crossed then s3 else endInstr s3
  | 3 => if s.seq.crossed then withTemp s fun page => branchFix page s else raise .noSuchRow s
  | _ => raise .noSuchRow s

/-- R161. -/
def rowJmpAbs (s : State) : State :=
  match s.seq.t with
  | 1 => rowFetchTemp s
  | 2 => withTemp s fun l => jumpFinal (answer s.regs.pc s) l s
  | _ => raise .noSuchRow s

/-- R162. -/
def rowJmpInd (s : State) : State :=
  match s.seq.t with
  | 1 => rowFetchZp s
  | 2 => rowFetchHigh s
  | 3 => withEa s fun ptr => jumpIndLow ptr s
  | 4 => withEa s fun ptr => withTemp s fun l => jumpIndHigh ptr l s
  | _ => raise .noSuchRow s

/-- R163. -/
def rowJsr (s : State) : State :=
  match s.seq.t with
  | 1 => rowFetchTemp s
  | 2 => rowFetchOperand s
  | 3 => jsrBack s
  | 4 => jsrPushHigh s
  | 5 => withOperand s fun h => withTemp s fun l => jsrFinal h l s
  | _ => raise .noSuchRow s

/-- R164. -/
def rowRts (s : State) : State :=
  match s.seq.t with
  | 1 => rowDummyPc s
  | 2 => pullDummy s
  | 3 => rtsLow s
  | 4 => withTemp s fun l => rtsHigh l s
  | 5 => rtsFinal s
  | _ => raise .noSuchRow s

/-- R165. -/
def rowPush (s : State) : State :=
  match s.seq.t with
  | 1 => rowDummyPc s
  | 2 => withFunction (storeOf s.seq.mnemonic) s fun f => endInstr (push (f s.regs) s)
  | _ => raise .noSuchRow s

/-- R166. -/
def rowPull (s : State) : State :=
  match s.seq.t with
  | 1 => rowDummyPc s
  | 2 => pullDummy s
  | 3 => withFunction (applyOf s.seq.mnemonic) s fun f =>
      endInstr (mapRegs (f (answer (stackAddr s) s)) (readCycle (stackAddr s) s))
  | _ => raise .noSuchRow s

/-- T3 to T7 of the interrupt shape, with the vector `vec` and the break bit (R167, R302). -/
def rowInterruptShape (vec : Addr) (brk : Bool) (s : State) : State :=
  match s.seq.t with
  | 2 => push (hi s.regs.pc) s
  | 3 => push (lo s.regs.pc) s
  | 4 => push (packP brk s.regs) s
  | 5 => vectorLow vec s
  | 6 => withTemp s fun l => vectorHigh vec l s
  | _ => raise .noSuchRow s

/-- R167. -/
def rowBrk (s : State) : State :=
  match s.seq.t with
  | 1 => brkSkip s
  | _ => rowInterruptShape irqVector true s

/-- R302: T1 and T2 are dummy reads of PC. -/
def rowInterrupt (vec : Addr) (s : State) : State :=
  match s.seq.t with
  | 0 | 1 => rowDummyPc s
  | _ => rowInterruptShape vec false s

/-- R168 T4: `p := MemRead(StackAddr()); operand <- p; SP <- SP +8 1`. -/
def rtiStatus (s : State) : State :=
  setSp (s.regs.sp + 1#8) (setOperand (answer (stackAddr s) s) (readCycle (stackAddr s) s))

/-- R168 T6: `h := MemRead(StackAddr()); PC <- w16(h, temp_latch); UnpackP(operand); END`. -/
def rtiFinal (p l : Byte) (s : State) : State :=
  let h := answer (stackAddr s) s
  endInstr (mapRegs (fun r => unpackP p { r with pc := w16 h l }) (readCycle (stackAddr s) s))

/-- R168. -/
def rowRti (s : State) : State :=
  match s.seq.t with
  | 1 => rowDummyPc s
  | 2 => pullDummy s
  | 3 => rtiStatus s
  | 4 => rtsLow s
  | 5 => withOperand s fun p => withTemp s fun l => rtiFinal p l s
  | _ => raise .noSuchRow s

/-- The next row of a sequence. -/
def rowOf (q : Sequence) (s : State) : State :=
  match q with
  | .implied => rowImplied s
  | .accumulator => rowAccumulator s
  | .immediate => rowImmediate s
  | .zpR => rowZpR s
  | .zpW => rowZpW s
  | .zpM => rowZpM s
  | .zpIndexedR => rowZpIndexedR s
  | .zpIndexedW => rowZpIndexedW s
  | .zpIndexedM => rowZpIndexedM s
  | .absR => rowAbsR s
  | .absW => rowAbsW s
  | .absM => rowAbsM s
  | .absIndexedR => rowAbsIndexedR s
  | .absIndexedW => rowAbsIndexedW s
  | .absIndexedM => rowAbsIndexedM s
  | .izxR => rowIzxR s
  | .izxW => rowIzxW s
  | .izyR => rowIzyR s
  | .izyW => rowIzyW s
  | .branch => rowBranch s
  | .jmpAbs => rowJmpAbs s
  | .jmpInd => rowJmpInd s
  | .jsr => rowJsr s
  | .rts => rowRts s
  | .push => rowPush s
  | .pull => rowPull s
  | .brk => rowBrk s
  | .rti => rowRti s

/-- `MicroStep()`: the row T(t+1) of the sequence in flight (R134, R135). -/
def microStep (s : State) : State :=
  match s.seq.phase with
  | .exec =>
    match sequenceOf s.seq.mnemonic s.seq.mode with
    | some q => rowOf q s
    | none => raise (.unsupportedAddressingMode s.seq.mnemonic s.seq.mode) s
  | .nmiSeq => rowInterrupt nmiVector s
  | .irqSeq => rowInterrupt irqVector s
  | .idle => raise .noSuchRow s

/-- `Decode()`, T1 of every instruction (R133): a byte with no entry halts the core after the fetch (R310). -/
def decodeRow (s : State) : State :=
  let op := answer s.regs.pc s
  match lookup op with
  | some e => decodeClock op e s
  | none => { fetchCycle op s with seq := s.seq, halted := some (.unknownOpcode op s.regs.pc) }

/-- `IdleClock()` (R131), after the IRQ level has been polled. -/
def idleClock (s : State) : State :=
  if s.latches.nmiPending then
    microStep (beginInterrupt .nmiSeq { s with latches := { s.latches with nmiPending := false } })
  else if s.latches.irqLineAsserted && !s.regs.i then
    microStep (beginInterrupt .irqSeq s)
  else decodeRow s

/-- `Clock()` (R130). -/
def clock (s : State) : State :=
  match s.halted with
  | some _ => s
  | none =>
    if s.stallCycles = 0 then
      let s' := poll s
      match s'.seq.phase with
      | .idle => idleClock s'
      | _ => microStep s'
    else stalledClock s

/-- `k` clocks. -/
def clocks : Nat → State → State
  | 0, s => s
  | k + 1, s => clocks k (clock s)

/-- A state as an outcome: a halted state is a fault outcome, never a normal end (R312). -/
def outcomeOf (s : State) : Result :=
  match s.halted with
  | some f => .fault f
  | none => .next s

/-! ## Timing -/

/-- The extra clocks that the instruction in flight has earned so far (R38, R134): one for an indexed read that crossed
a page; for a branch, one once it is taken (still in flight after T2) and one more across a page. -/
def extension (s : State) : Nat :=
  match sequenceOf s.seq.mnemonic s.seq.mode with
  | some .absIndexedR | some .izyR => if s.seq.crossed then 1 else 0
  | some .branch => if s.seq.t < 2 then 0 else if s.seq.crossed then 2 else 1
  | _ => 0

/-- `remaining_cycles` (R38): 0 in phase Idle, else the rows still to run. -/
def remainingCycles (s : State) : Nat :=
  match s.seq.phase with
  | .idle => 0
  | .exec => s.seq.baseCycles + extension s - s.seq.t
  | .nmiSeq | .irqSeq => s.seq.baseCycles - s.seq.t

/-- The number of clocks `exec i` takes in a state with T1 still to come (R134, R352): the table count, plus one for an
indexed read whose index crosses a page, or the 2, 3 or 4 clocks of a branch. For (indirect),Y the base address is the
one the pointer bytes answer at their clocks. -/
def clocksOf (i : Instr) (s : State) : Nat :=
  match i.mode, i.operands with
  | .abx, [l, h] =>
    if kindOf i.mnemonic = .read ∧ samePage (w16 h l) (w16 h l + zext16 s.regs.x) = false then i.cycles + 1 else i.cycles
  | .aby, [l, h] =>
    if kindOf i.mnemonic = .read ∧ samePage (w16 h l) (w16 h l + zext16 s.regs.y) = false then i.cycles + 1 else i.cycles
  | .izy, [p] =>
    let base := w16 (answerAt (s.bus.now + 4) (zext16 (p + 1#8)) s) (answerAt (s.bus.now + 3) (zext16 p) s)
    if kindOf i.mnemonic = .read ∧ samePage base (base + zext16 s.regs.y) = false then i.cycles + 1 else i.cycles
  | .rel, [offset] =>
    let next := s.regs.pc + 2#16
    match branchCond i.mnemonic s.regs with
    | some true => if samePage next (next + sext16 offset) then i.cycles + 1 else i.cycles + 2
    | _ => i.cycles
  | _, _ => i.cycles

end Sys2Proof.Machine
end

