-- ==== Sys2Proof/Machine/Step.lean ====
section
/-! DEFINITION. One step: a stalled clock, one clock of a sequence in flight, or, from an Idle state, a whole
interrupt sequence or a whole instruction (R6, log 3). It only calls the operations of the other files. -/

namespace Sys2Proof.Machine

open Sys2Proof

/-- One step of the machine. A halted state is a fault outcome for good (R43, R312); a stall absorbs one clock (R130);
a sequence in flight runs one clock (R130); an Idle state arbitrates and then runs what the arbiter chose (R131, R306). -/
def step (s : State) : Host.Outcome State Fault Refusal :=
  match s.halted with
  | some f => .fault f
  | none =>
    if s.stallCycles = 0 then
      match s.seq.phase with
      | .idle =>
        match arbitrate s with
        | .nmi => .next (takeNmi s)
        | .irq => .next (takeIrq s)
        | .instruction =>
          match fetchInstr s with
          | .ok i => exec i s
          | .error f => .fault f
      | _ => outcomeOf (clock s)
    else .next (stalledClock s)

/-- `s` with the instruction whose bits are `w` (bits at or above `nbits` are 0) stored at PC, in a machine that runs
it in its very next step: not halted, not stalled, Idle, with no interrupt to take and RAM answering every read
(log 7). -/
def State.withFetchWord (s : State) (nbits w : Nat) : State :=
  { s with
    seq := { s.seq with phase := .idle }
    latches := { s.latches with nmiPending := false }
    irqIn := false
    stallCycles := 0
    halted := none
    bus := { s.bus with answers := [] }
    mem :=
      Memory.write
        (Memory.write
          (Memory.write s.mem s.regs.pc.toNat (tableByte nbits w 0))
          (s.regs.pc + 1#16).toNat (tableByte nbits w 1))
        (s.regs.pc + 2#16).toNat (tableByte nbits w 2) }

end Sys2Proof.Machine
end

