-- ==== Sys2Proof/Machine/HostCalls.lean ====
section
/-! DEFINITION. The host's calls between clocks (D1): the interrupt inputs, the stall, the reset-vector load, and
snapshot and restore. In a halted core none of them has an effect (R312). -/

namespace Sys2Proof.Machine

open Sys2Proof

/-- Applies a host call unless the core is halted (R312). -/
def unlessHalted (f : State → State) (s : State) : State :=
  match s.halted with
  | some _ => s
  | none => f s

/-- `trigger_nmi()`: an edge sets `nmi_pending`; edges coalesce (R40, R303). -/
def triggerNmi (s : State) : State :=
  unlessHalted (fun s => { s with latches := { s.latches with nmiPending := true } }) s

/-- `assert_irq_line()` (R41). -/
def assertIrqLine (s : State) : State :=
  unlessHalted (fun s => { s with irqIn := true }) s

/-- `deassert_irq_line()` (R41). -/
def deassertIrqLine (s : State) : State :=
  unlessHalted (fun s => { s with irqIn := false }) s

/-- `add_stall(n)`: `stall_cycles <- stall_cycles + n`; a total that does not fit `STALL_BITS` is refused (R139, D16,
I8). -/
def addStall (n : Nat) (s : State) : Host.Outcome State Fault Refusal :=
  match s.halted with
  | some _ => .next s
  | none =>
    if s.config.stallFits (s.stallCycles + n) then .next { s with stallCycles := s.stallCycles + n }
    else .refused .stallOverflow

/-- The value a read made between clocks is answered: its clock is the number of clocks run (R341, log 4). -/
def answerBetween (a : Addr) (s : State) : Byte := answerAt s.bus.now a s

/-- Records a read made between clocks. -/
def recordBetween (a : Addr) (s : State) : State :=
  { s with bus := { s.bus with trace := ⟨s.bus.now, .read, a, answerBetween a s⟩ :: s.bus.trace } }

/-- `LoadResetVector()`: reads $FFFD, then $FFFC, and loads PC; it takes no clock (R341, C1). The spec has the host call
it before the first clock only; that it does the same in any other running state, stalled or in flight too, is the model's
(DESIGN CHOICE, unsafe, log 16), as is that it does nothing in a halted core (DEDUCED, log 14). -/
def loadResetVector (s : State) : State :=
  unlessHalted (fun s =>
    let h := answerBetween (resetVector + 1#16) s
    let s1 := recordBetween (resetVector + 1#16) s
    let l := answerBetween resetVector s1
    setPc (w16 h l) (recordBetween resetVector s1)) s

/-- `Snapshot()`: the register file (R46, R343). -/
def snapshot (s : State) : RegisterFile := s.regs

/-- `Restore(r)`: overwrites the register file and nothing else; refused while a sequence is in flight, without effect
in a halted core (R344, R350, R312). -/
def restore (r : RegisterFile) (s : State) : Host.Outcome State Fault Refusal :=
  match s.halted with
  | some _ => .next s
  | none =>
    match s.seq.phase with
    | .idle => .next { s with regs := r }
    | _ => .refused .restoreInFlight

/-- The cause code the spec gives the two fatal faults (R310, R311); the model's own two have none. -/
def Fault.causeCode : Fault → Option Nat
  | .unknownOpcode _ _ => some 1
  | .unsupportedAddressingMode _ _ => some 2
  | .unsetField => none
  | .noSuchRow => none

end Sys2Proof.Machine
end

