-- ==== Sys2Proof/Safety.lean ====
section
/-! DEFINITION. What counts as a safe run; the invariant of the machine: memory in canonical form, a sequencer that
stands at a row of its table with the latches that row reads set (R39, R172), a stall count that fits its width (R42),
and parameters with the values R8 allows; and the words the statements use for the whole effect of an instruction: its
bus accesses clock by clock, its registers, memory, and everything it leaves alone (R6). -/

namespace Sys2Proof.Machine

open Sys2Proof

/-- A safe step answers a next state. -/
def isNext (o : Host.Outcome State Fault Refusal) : Bool :=
  match o with
  | .next _ => true
  | .fault _ => false
  | .refused _ => false

/-- A run of `k` steps is safe when none of them stops. -/
def safeRun (k : Nat) (s : State) : Bool :=
  isNext (Sys2Proof.core.run k s)

/-- What a row needs from the rows before it: the latches it reads, and the value `crossed` has there, where the
sequence fixes it: 0 up to the page-cross check, 1 in a row that exists only after a cross. -/
structure Need where
  ea : Bool
  operand : Bool
  temp : Bool
  crossed : Option Bool
  deriving DecidableEq, Repr

/-- A row that reads no latch. -/
def Need.nothing : Need := ⟨false, false, false, none⟩

/-- A row that reads the address latch. -/
def Need.address : Need := ⟨true, false, false, none⟩

/-- A row that reads the data latch. -/
def Need.data : Need := ⟨false, true, false, none⟩

/-- A row that reads the second data latch. -/
def Need.second : Need := ⟨false, false, true, none⟩

/-- A row that reads both data latches. -/
def Need.bothData : Need := ⟨false, true, true, none⟩

/-- A row that reads the data latch, whose sequence reads the address latch too. -/
def Need.addressData : Need := ⟨true, true, false, none⟩

/-- A row that reads the address latch and the second data latch. -/
def Need.addressSecond : Need := ⟨true, false, true, none⟩

/-- A row that reads all three latches. -/
def Need.every : Need := ⟨true, true, true, none⟩

/-- The same row before the page-cross check of its sequence (R39). -/
def Need.unchecked (n : Need) : Need := { n with crossed := some false }

/-- The same row in a sequence that has it only after a page cross. -/
def Need.afterCross (n : Need) : Need := { n with crossed := some true }

/-- What each row T2, T3, … of a sequence needs (R141 to R168); the length of the list is the greatest number of rows
after T1. -/
def rowNeeds : Sequence → List Need
  | .implied | .accumulator | .immediate => [.nothing]
  | .zpR | .zpW => [.nothing, .address]
  | .zpM => [.nothing, .address, .every, .every]
  | .zpIndexedR | .zpIndexedW | .absR | .absW => [.nothing, .address, .address]
  | .zpIndexedM | .absM => [.nothing, .address, .address, .every, .every]
  | .absIndexedR => [Need.nothing.unchecked, Need.address.unchecked, .address, Need.address.afterCross]
  | .absIndexedW => [.nothing, .address, .address, .address]
  | .absIndexedM => [.nothing, .address, .address, .address, .every, .every]
  | .izxR | .izxW => [.nothing, .data, .data, .addressData, .address]
  | .izyR =>
    [Need.nothing.unchecked, Need.data.unchecked, Need.addressData.unchecked, .address, Need.address.afterCross]
  | .izyW => [.nothing, .data, .addressData, .address, .address]
  | .branch => [Need.nothing.unchecked, Need.data.unchecked, Need.second.afterCross]
  | .jmpAbs => [.nothing, .second]
  | .jmpInd => [.nothing, .address, .address, .addressSecond]
  | .jsr => [.nothing, .second, .bothData, .bothData, .bothData]
  | .rts => [.nothing, .nothing, .nothing, .second, .nothing]
  | .push => [.nothing, .nothing]
  | .pull => [.nothing, .nothing, .nothing]
  | .brk => [.nothing, .nothing, .nothing, .nothing, .nothing, .second]
  | .rti => [.nothing, .nothing, .nothing, .data, .bothData]

/-- The latches meet a row's need. -/
def SeqState.meets (q : SeqState) (n : Need) : Bool :=
  (!n.ea || q.effectiveAddress.isSome) && (!n.operand || q.operand.isSome) && (!n.temp || q.tempLatch.isSome) &&
    (n.crossed.all fun c => q.crossed == c)

/-- The cycle count the decode table gives a mnemonic in a mode (R99). -/
def tableCycles (mn : Mnemonic) (mode : Mode) : Option Nat :=
  opcodeMap.findSome? fun row => row.findSome? fun o =>
    match o with
    | some e => if e.mnemonic = mn ∧ e.mode = mode then some e.cycles else none
    | none => none

/-- An instruction in flight stands at a row of its sequence and has what the row needs. -/
def SeqState.execReady (q : SeqState) : Bool :=
  tableCycles q.mnemonic q.mode == some q.baseCycles &&
    match sequenceOf q.mnemonic q.mode with
    | some k =>
      match q.t with
      | 0 => false
      | n + 1 =>
        match (rowNeeds k)[n]? with
        | some need => q.meets need
        | none => false
    | none => false

/-- An interrupt sequence in flight stands at one of its clocks T2 to T7; T7 has the vector's low byte (R302). -/
def SeqState.interruptReady (q : SeqState) : Bool :=
  q.baseCycles == 7 && decide (1 ≤ q.t) && decide (q.t ≤ 6) && (q.t != 6 || q.tempLatch.isSome)

/-- The sequencer is consistent (R37, R39, R172). -/
def SeqState.wf (q : SeqState) : Bool :=
  match q.phase with
  | .idle => true
  | .exec => q.execReady
  | .nmiSeq | .irqSeq => q.interruptReady

/-- The invariant of the machine. -/
def State.wf (s : State) : Bool :=
  Memory.wf s.mem && s.seq.wf && s.config.stallFits s.stallCycles && s.config.wf

/-! ## The effect of an instruction or an interrupt, clock by clock -/

/-- What one clock does on the bus: the kind of its access, the address and the value. -/
abbrev Slot := AccessKind × Addr × Byte

/-- Whether an access of a kind is performed (R12): dummy accesses only when `DUMMY_BUS = full`. -/
def performed : DummyBus → AccessKind → Bool
  | .full, _ => true
  | .none, .read => true
  | .none, .write => true
  | .none, .dummyRead => false
  | .none, .dummyWrite => false

/-- A trace after clocks `now + 1`, `now + 2`, … with the given slots (R63, R73): one slot a clock, the most recent
access first. -/
def recordSlots (d : DummyBus) : Nat → List Slot → List Access → List Access
  | _, [], tr => tr
  | now, (k, a, v) :: rest, tr =>
    recordSlots d (now + 1) rest (if performed d k then ⟨now + 1, k, a, v⟩ :: tr else tr)

/-- What the Bus answers to a read of `a` at clock Tk counted from `s`, by the oracle and the memory of `s`. -/
def valueAt (k : Nat) (a : Addr) (s : State) : Byte := answerAt (s.bus.now + k) a s

/-- The whole effect of something that runs from `s` to an Idle state: one bus slot a clock, the registers and the
memory bytes it leaves, the NMI latch it leaves, the IRQ level polled; and the frame: the IRQ input, the stall counter,
the fault state, the parameters and the oracle are unchanged. Of the execution state it fixes phase and `t`. -/
def EndsWith (o : Host.Outcome State Fault Refusal) (s : State) (nmi : Bool) (slots : List Slot) (regs : RegisterFile)
    (mem : Addr → Byte) : Prop :=
  ∃ t, o = .next t ∧ t.regs = regs ∧ (∀ a, t.readMem a = mem a) ∧
    t.seq.phase = .idle ∧ t.seq.t = slots.length ∧
    t.bus = ⟨s.bus.now + slots.length, recordSlots s.config.dummyBus s.bus.now slots s.bus.trace, s.bus.answers⟩ ∧
    t.latches = ⟨nmi, s.irqIn⟩ ∧ t.irqIn = s.irqIn ∧ t.stallCycles = s.stallCycles ∧ t.halted = s.halted ∧
    t.config = s.config

/-- An instruction completes from `s` with this effect; the NMI latch is unchanged. -/
def Completes (i : Instr) (s : State) (slots : List Slot) (regs : RegisterFile) (mem : Addr → Byte) : Prop :=
  EndsWith (exec i s) s s.latches.nmiPending slots regs mem

/-! ## The operand forms as R92 and the tables R143 to R159 give them -/

/-- An operand form of the R, W and M kinds. -/
inductive Form where
  | imm (v : Byte)
  | zp (p : Byte)
  | zpx (p : Byte)
  | zpy (p : Byte)
  | abs (a : Addr)
  | abx (base : Addr)
  | aby (base : Addr)
  | izx (p : Byte)
  | izy (p : Byte)
  deriving DecidableEq, Repr

/-- The operand bytes of a form (R90, R92). -/
def Form.bytes : Form → List Byte
  | .imm v => [v]
  | .zp p | .zpx p | .zpy p | .izx p | .izy p => [p]
  | .abs a | .abx a | .aby a => [lo a, hi a]

/-- The base address of (indirect),Y: the zero-page pointer read at clocks T3 and T4 (R158). -/
def izyBase (p : Byte) (s : State) : Addr :=
  w16 (valueAt 4 (zext16 (p + 1#8)) s) (valueAt 3 (zext16 p) s)

/-- The effective address of a form (R92): for an immediate, the address of its byte. -/
def Form.ea (f : Form) (s : State) : Addr :=
  match f with
  | .imm _ => s.regs.pc + 1#16
  | .zp p => zext16 p
  | .zpx p => zext16 (p + s.regs.x)
  | .zpy p => zext16 (p + s.regs.y)
  | .abs a => a
  | .abx base => base + zext16 s.regs.x
  | .aby base => base + zext16 s.regs.y
  | .izx p => w16 (valueAt 5 (zext16 (p + s.regs.x + 1#8)) s) (valueAt 4 (zext16 (p + s.regs.x)) s)
  | .izy p => izyBase p s + zext16 s.regs.y

/-- The clock in which an index addition is fixed up: a dummy read at the unindexed address, for a store and a
read-modify-write always, for a read only when the index crosses a page (R153, R154, R158, R159, R170). -/
def fixSlot (isRead : Bool) (k : Nat) (base ea : Addr) (s : State) : List Slot :=
  if isRead && hi base == hi ea then [] else [(.dummyRead, base, valueAt k base s)]

/-- The slots of an instruction with opcode `op` and a form, from T1 up to the clock before its data access (an
immediate has T1 alone: its T2 is the data access). -/
def Form.prep (f : Form) (isRead : Bool) (op : Byte) (s : State) : List Slot :=
  let pc := s.regs.pc
  (.read, pc, op) ::
    match f with
    | .imm _ => []
    | .zp p => [(.read, pc + 1#16, p)]
    | .zpx p | .zpy p => [(.read, pc + 1#16, p), (.dummyRead, zext16 p, valueAt 3 (zext16 p) s)]
    | .abs a => [(.read, pc + 1#16, lo a), (.read, pc + 2#16, hi a)]
    | .abx base | .aby base =>
      (.read, pc + 1#16, lo base) :: (.read, pc + 2#16, hi base) :: fixSlot isRead 4 base (f.ea s) s
    | .izx p =>
      let q := p + s.regs.x
      [(.read, pc + 1#16, p), (.dummyRead, zext16 p, valueAt 3 (zext16 p) s), (.read, zext16 q, valueAt 4 (zext16 q) s),
        (.read, zext16 (q + 1#8), valueAt 5 (zext16 (q + 1#8)) s)]
    | .izy p =>
      (.read, pc + 1#16, p) :: (.read, zext16 p, valueAt 3 (zext16 p) s) ::
        (.read, zext16 (p + 1#8), valueAt 4 (zext16 (p + 1#8)) s) :: fixSlot isRead 5 (izyBase p s) (f.ea s) s

/-- The operand byte of an R-kind or M-kind instruction: the immediate, or what the Bus answers at the effective address
in the clock of the data access. -/
def Form.value (f : Form) (isRead : Bool) (op : Byte) (s : State) : Byte :=
  match f with
  | .imm v => v
  | _ => valueAt ((f.prep isRead op s).length + 1) (f.ea s) s

/-- The registers with PC past an instruction of `n` bytes (R26). -/
def pcAfter (n : Nat) (s : State) : RegisterFile :=
  { s.regs with pc := s.regs.pc + BitVec.ofNat 16 n }

/-- `i` is the R-kind instruction of opcode `op` in form `f`: it is encoded so, and from `s` it reads its operand
byte m as the form says, advances PC past itself, applies `eff m` to the registers, and changes no byte of memory. -/
def ReadsAs (i : Instr) (op : Byte) (f : Form) (s : State) (eff : Byte → RegisterFile → RegisterFile) : Prop :=
  encode i = op :: f.bytes ∧
    Completes i s (f.prep true op s ++ [(.read, f.ea s, f.value true op s)])
      (eff (f.value true op s) (pcAfter (f.bytes.length + 1) s)) s.readMem

/-- `i` is the W-kind instruction of opcode `op` in form `f`: it is encoded so, and from `s` it writes `v` at its
effective address in its last clock, changes no other byte of memory and no register but PC, which moves past it. -/
def WritesAs (i : Instr) (op : Byte) (f : Form) (s : State) (v : Byte) : Prop :=
  encode i = op :: f.bytes ∧
    Completes i s (f.prep false op s ++ [(.write, f.ea s, v)]) (pcAfter (f.bytes.length + 1) s)
      (fun a => if a = f.ea s then v else s.readMem a)

/-- `i` is the M-kind instruction of opcode `op` in form `f`: it is encoded so, and from `s` it reads the byte m at its
effective address, dummy-writes m back, writes `(modify m).1` there, changes no other byte of memory, sets Z and N from
the written byte and C from the carry-out, if there is one, and no other register but PC, which moves past it. -/
def ModifiesAs (i : Instr) (op : Byte) (f : Form) (s : State) (modify : Byte → Byte × Option Bool) : Prop :=
  encode i = op :: f.bytes ∧
    let m := f.value false op s
    let r := (modify m).1
    Completes i s (f.prep false op s ++ [(.read, f.ea s, m), (.dummyWrite, f.ea s, m), (.write, f.ea s, r)])
      { pcAfter (f.bytes.length + 1) s with z := r == 0#8, n := r.getLsbD 7, c := (modify m).2.getD s.regs.c }
      (fun a => if a = f.ea s then r else s.readMem a)

/-! ## Branches and interrupts -/

/-- The clocks T3 and T4 of a branch: none when it is not taken, one when it is, two across a page (R160). -/
def branchSlots (taken : Bool) (target : Addr) (s : State) : List Slot :=
  let next := s.regs.pc + 2#16
  if taken then
    (.dummyRead, next, valueAt 3 next s) ::
      if hi next == hi target then []
      else [(.dummyRead, w16 (hi next) (lo target), valueAt 4 (w16 (hi next) (lo target)) s)]
  else []

/-- The slots of the clocks T3 to T7 that push `ret` and the status byte `p` and read the vector (R302, R308). -/
def entrySlots (vec ret : Addr) (p : Byte) (s : State) : List Slot :=
  let sp := s.regs.sp
  [(.write, w16 0x01#8 sp, hi ret), (.write, w16 0x01#8 (sp - 1#8), lo ret), (.write, w16 0x01#8 (sp - 2#8), p),
    (.read, vec, valueAt 6 vec s), (.read, vec + 1#16, valueAt 7 (vec + 1#16) s)]

/-- Memory after an interrupt entry: the three pushed bytes, the rest as before. -/
def entryMem (ret : Addr) (p : Byte) (s : State) (a : Addr) : Byte :=
  let sp := s.regs.sp
  if a = w16 0x01#8 (sp - 2#8) then p
  else if a = w16 0x01#8 (sp - 1#8) then lo ret
  else if a = w16 0x01#8 sp then hi ret
  else s.readMem a

/-- The registers after an interrupt entry through `vec` (R308). -/
def entryRegs (vec : Addr) (s : State) : RegisterFile :=
  { s.regs with pc := w16 (valueAt 7 (vec + 1#16) s) (valueAt 6 vec s), sp := s.regs.sp - 3#8, i := true }

/-! ## The one-byte forms and the branches -/

/-- `i` is a one-byte instruction of opcode `op`: it is encoded so, and from `s` it takes two clocks, the second a dummy
read of the next byte, applies `eff` to the registers with PC past itself, and changes no byte of memory (R141). -/
def ImpliedAs (i : Instr) (op : Byte) (s : State) (eff : RegisterFile → RegisterFile) : Prop :=
  encode i = [op] ∧
    Completes i s
      [(.read, s.regs.pc, op), (.dummyRead, s.regs.pc + 1#16, valueAt 2 (s.regs.pc + 1#16) s)]
      (eff (pcAfter 1 s)) s.readMem

/-- `i` is an accumulator-mode shift of opcode `op`: A becomes the result r of `modify`, Z and N are set from r, C from
the carry-out (R142). -/
def AccumulatorAs (i : Instr) (op : Byte) (s : State) (modify : Byte → Byte × Bool) : Prop :=
  ImpliedAs i op s fun r =>
    { r with a := (modify r.a).1, z := (modify r.a).1 == 0#8, n := (modify r.a).1.getLsbD 7, c := (modify r.a).2 }

/-- `i` is the branch of opcode `op`: it is encoded so, and from `s` it goes to the sign-extended offset past the next
instruction when `taken`, else to the next instruction; no other register and no byte of memory changes (R160, R260). -/
def BranchesAs (i : Instr) (op offset : Byte) (s : State) (taken : Bool) : Prop :=
  encode i = [op, offset] ∧
    let next := s.regs.pc + 2#16
    let target := next + offset.signExtend 16
    Completes i s
      ((.read, s.regs.pc, op) :: (.read, s.regs.pc + 1#16, offset) :: branchSlots taken target s)
      { s.regs with pc := if taken then target else next } s.readMem

/-- The operand form of an instruction in one of the R, W or M modes; none for the other modes (R92). -/
def formOf (i : Instr) : Option Form :=
  match i.mode, i.operands with
  | .imm, [v] => some (.imm v)
  | .zp, [p] => some (.zp p)
  | .zpx, [p] => some (.zpx p)
  | .zpy, [p] => some (.zpy p)
  | .abs, [l, h] => some (.abs (w16 h l))
  | .abx, [l, h] => some (.abx (w16 h l))
  | .aby, [l, h] => some (.aby (w16 h l))
  | .izx, [p] => some (.izx p)
  | .izy, [p] => some (.izy p)
  | _, _ => none

/-! ## When an instruction is the next thing to run -/

/-- The next clock is an Idle clock that takes no interrupt: running, not stalled, between instructions, no NMI pending,
and no IRQ level with I = 0 (R130, R131). -/
def Ready (s : State) : Prop :=
  s.halted = none ∧ s.stallCycles = 0 ∧ s.seq.phase = .idle ∧ s.latches.nmiPending = false ∧
    (s.irqIn && !s.regs.i) = false

/-- The bytes at PC, as the Bus answers them in the clocks that fetch them (R132). -/
def fetchedBytes (s : State) : List Byte :=
  [instrByte 0 s, instrByte 1 s, instrByte 2 s]

end Sys2Proof.Machine
end

