-- ==== Sys2Proof/Certificates/Slice0/Obligations.lean ====
section
/-! DEFINITION. The statements about the model, for the provers. Each says which rules of spec/ it formalises; where a
clause is the model's choice it names the log entry. The instruction statements hold for every state and operand. -/

open Sys2Proof Sys2Proof.Machine

/-- No bit of an encoding is dropped (R90 to R99). The opcode numbers are the spec's general-knowledge table. -/
def Obligations.DecodeOfEncodeIsTheInstruction : Prop :=
  ∀ (i : Instr) (rest : List Byte), i.wf = true ∧ decode (encode i ++ rest) = .ok (i, rest)

/-- Each word has one meaning (R90, R105, R107). -/
def Obligations.EncodeOfDecodeIsTheBytes : Prop :=
  ∀ (bs : List Byte) (i : Instr) (rest : List Byte),
    decode bs = .ok (i, rest) → encode i ++ rest = bs ∧ (encode i).length = i.mode.length

/-- All thirteen words of the table of R108, one per mode, and two words of the map of R99. -/
def Obligations.WrittenWordsDecode : Prop :=
  decode [0xE8#8] = .ok (.inx, []) ∧ decode [0x0A#8] = .ok (.aslAcc, []) ∧
  decode [0xA9#8, 0x42#8] = .ok (.ldaImm 0x42#8, []) ∧ decode [0xA5#8, 0x10#8] = .ok (.ldaZp 0x10#8, []) ∧
  decode [0xB5#8, 0x10#8] = .ok (.ldaZpx 0x10#8, []) ∧ decode [0xB6#8, 0x10#8] = .ok (.ldxZpy 0x10#8, []) ∧
  decode [0x4C#8, 0x00#8, 0x80#8] = .ok (.jmpAbs 0x8000#16, []) ∧
  decode [0xBD#8, 0xFF#8, 0x90#8] = .ok (.ldaAbx 0x90FF#16, []) ∧
  decode [0xB9#8, 0x34#8, 0x12#8] = .ok (.ldaAby 0x1234#16, []) ∧
  decode [0x6C#8, 0xFF#8, 0x10#8] = .ok (.jmpInd 0x10FF#16, []) ∧
  decode [0xA1#8, 0x20#8] = .ok (.ldaIzx 0x20#8, []) ∧
  decode [0xB1#8, 0x20#8] = .ok (.ldaIzy 0x20#8, []) ∧ decode [0xD0#8, 0xFB#8] = .ok (.bne 0xFB#8, []) ∧
  decode [0x00#8] = .ok (.brk, []) ∧ decode [0x40#8] = .ok (.rti, [])

/-- R104 and R105 (decision D5): the list is the spec's, byte for byte. -/
def Obligations.IllegalBytesAreRefusedByName : Prop :=
  let illegal : List Nat :=
      [0x02, 0x03, 0x04, 0x07, 0x0B, 0x0C, 0x0F, 0x12, 0x13, 0x14, 0x17, 0x1A, 0x1B, 0x1C, 0x1F] ++
      [0x22, 0x23, 0x27, 0x2B, 0x2F, 0x32, 0x33, 0x34, 0x37, 0x3A, 0x3B, 0x3C, 0x3F, 0x42, 0x43] ++
      [0x44, 0x47, 0x4B, 0x4F, 0x52, 0x53, 0x54, 0x57, 0x5A, 0x5B, 0x5C, 0x5F, 0x62, 0x63, 0x64] ++
      [0x67, 0x6B, 0x6F, 0x72, 0x73, 0x74, 0x77, 0x7A, 0x7B, 0x7C, 0x7F, 0x80, 0x82, 0x83, 0x87] ++
      [0x89, 0x8B, 0x8F, 0x92, 0x93, 0x97, 0x9B, 0x9C, 0x9E, 0x9F, 0xA3, 0xA7, 0xAB, 0xAF, 0xB2] ++
      [0xB3, 0xB7, 0xBB, 0xBF, 0xC2, 0xC3, 0xC7, 0xCB, 0xCF, 0xD2, 0xD3, 0xD4, 0xD7, 0xDA, 0xDB] ++
      [0xDC, 0xDF, 0xE2, 0xE3, 0xE7, 0xEB, 0xEF, 0xF2, 0xF3, 0xF4, 0xF7, 0xFA, 0xFB, 0xFC, 0xFF]
  ∀ (op b1 b2 : Byte) (rest : List Byte),
    (op.toNat ∈ illegal → decode (op :: rest) = .error (.unknownOpcode op)) ∧
    (op.toNat ∉ illegal → ∃ i rest', decode (op :: b1 :: b2 :: rest) = .ok (i, rest') ∧ i.opcode = op)

/-- R131 to R133 and R6; folding the clocks of an instruction into one step is the model's own form (log 3), and reading the operand bytes up front is log 15. -/
def Obligations.StepRunsTheFetchedInstruction : Prop :=
  ∀ (s : State) (i : Instr) (rest : List Byte),
    Ready s → decode (fetchedBytes s) = .ok (i, rest) → step s = exec i s

/-- R143, R144 and R150, whole: the rows, the effective address and Apply on the END clock, for every R-kind mnemonic. -/
def Obligations.UnindexedReadSequences : Prop :=
  ∀ (i : Instr) (ap : Apply) (s : State), kindOf i.mnemonic = .read → applyOf i.mnemonic = some ap →
    (∀ v, formOf i = some (.imm v) →
      encode i = [i.opcode, v] ∧
      Completes i s [(.read, s.regs.pc, i.opcode), (.read, s.regs.pc + 1#16, v)] (ap v (pcAfter 2 s)) s.readMem) ∧
    (∀ p, formOf i = some (.zp p) →
      encode i = [i.opcode, p] ∧
      Completes i s
        [(.read, s.regs.pc, i.opcode), (.read, s.regs.pc + 1#16, p), (.read, p.setWidth 16, valueAt 3 (p.setWidth 16) s)]
        (ap (valueAt 3 (p.setWidth 16) s) (pcAfter 2 s)) s.readMem) ∧
    (∀ a, formOf i = some (.abs a) →
      encode i = [i.opcode, lo a, hi a] ∧
      Completes i s
        [(.read, s.regs.pc, i.opcode), (.read, s.regs.pc + 1#16, lo a), (.read, s.regs.pc + 2#16, hi a),
          (.read, a, valueAt 4 a s)]
        (ap (valueAt 4 a s) (pcAfter 3 s)) s.readMem)

/-- R145 and R151, whole, for every W-kind mnemonic. -/
def Obligations.UnindexedWriteSequences : Prop :=
  ∀ (i : Instr) (reg : RegisterFile → Byte) (s : State),
    kindOf i.mnemonic = .write → storeOf i.mnemonic = some reg →
    (∀ p, formOf i = some (.zp p) →
      encode i = [i.opcode, p] ∧
      Completes i s
        [(.read, s.regs.pc, i.opcode), (.read, s.regs.pc + 1#16, p), (.write, p.setWidth 16, reg s.regs)]
        (pcAfter 2 s) (fun b => if b = p.setWidth 16 then reg s.regs else s.readMem b)) ∧
    (∀ a, formOf i = some (.abs a) →
      encode i = [i.opcode, lo a, hi a] ∧
      Completes i s
        [(.read, s.regs.pc, i.opcode), (.read, s.regs.pc + 1#16, lo a), (.read, s.regs.pc + 2#16, hi a),
          (.write, a, reg s.regs)]
        (pcAfter 3 s) (fun b => if b = a then reg s.regs else s.readMem b))

/-- R201, with the forms of R92 and the sequences R143, R144, R147, R150, R153, R156, R158; their dummy reads rest on decisions D7 and D8. -/
def Obligations.LdaLoadsAccumulator : Prop :=
  ∀ s : State,
    let load : Byte → RegisterFile → RegisterFile := fun m r =>
      { r with a := m, z := m == 0#8, n := m.getLsbD 7 }
    (∀ v, ReadsAs (.ldaImm v) 0xA9#8 (.imm v) s load) ∧
    (∀ p, ReadsAs (.ldaZp p) 0xA5#8 (.zp p) s load) ∧
    (∀ p, ReadsAs (.ldaZpx p) 0xB5#8 (.zpx p) s load) ∧
    (∀ a, ReadsAs (.ldaAbs a) 0xAD#8 (.abs a) s load) ∧
    (∀ a, ReadsAs (.ldaAbx a) 0xBD#8 (.abx a) s load) ∧
    (∀ a, ReadsAs (.ldaAby a) 0xB9#8 (.aby a) s load) ∧
    (∀ p, ReadsAs (.ldaIzx p) 0xA1#8 (.izx p) s load) ∧
    (∀ p, ReadsAs (.ldaIzy p) 0xB1#8 (.izy p) s load)

/-- R202 and R203, which the spec marks as general knowledge; forms of R92. -/
def Obligations.LdxAndLdyLoadTheIndexRegisters : Prop :=
  ∀ s : State,
    let loadX : Byte → RegisterFile → RegisterFile := fun m r =>
      { r with x := m, z := m == 0#8, n := m.getLsbD 7 }
    let loadY : Byte → RegisterFile → RegisterFile := fun m r =>
      { r with y := m, z := m == 0#8, n := m.getLsbD 7 }
    (∀ v, ReadsAs (.ldxImm v) 0xA2#8 (.imm v) s loadX) ∧
    (∀ p, ReadsAs (.ldxZp p) 0xA6#8 (.zp p) s loadX) ∧
    (∀ p, ReadsAs (.ldxZpy p) 0xB6#8 (.zpy p) s loadX) ∧
    (∀ a, ReadsAs (.ldxAbs a) 0xAE#8 (.abs a) s loadX) ∧
    (∀ a, ReadsAs (.ldxAby a) 0xBE#8 (.aby a) s loadX) ∧
    (∀ v, ReadsAs (.ldyImm v) 0xA0#8 (.imm v) s loadY) ∧
    (∀ p, ReadsAs (.ldyZp p) 0xA4#8 (.zp p) s loadY) ∧
    (∀ p, ReadsAs (.ldyZpx p) 0xB4#8 (.zpx p) s loadY) ∧
    (∀ a, ReadsAs (.ldyAbs a) 0xAC#8 (.abs a) s loadY) ∧
    (∀ a, ReadsAs (.ldyAbx a) 0xBC#8 (.abx a) s loadY)

/-- R204, with the sequences R145, R148, R151, R154, R157, R159; their dummy reads rest on decisions D7 and D8. -/
def Obligations.StaStoresAccumulator : Prop :=
  ∀ s : State,
    (∀ p, WritesAs (.staZp p) 0x85#8 (.zp p) s s.regs.a) ∧
    (∀ p, WritesAs (.staZpx p) 0x95#8 (.zpx p) s s.regs.a) ∧
    (∀ a, WritesAs (.staAbs a) 0x8D#8 (.abs a) s s.regs.a) ∧
    (∀ a, WritesAs (.staAbx a) 0x9D#8 (.abx a) s s.regs.a) ∧
    (∀ a, WritesAs (.staAby a) 0x99#8 (.aby a) s s.regs.a) ∧
    (∀ p, WritesAs (.staIzx p) 0x81#8 (.izx p) s s.regs.a) ∧
    (∀ p, WritesAs (.staIzy p) 0x91#8 (.izy p) s s.regs.a)

/-- R205 and R206, which the spec marks as general knowledge. -/
def Obligations.StxAndStyStoreTheIndexRegisters : Prop :=
  ∀ s : State,
    (∀ p, WritesAs (.stxZp p) 0x86#8 (.zp p) s s.regs.x) ∧
    (∀ p, WritesAs (.stxZpy p) 0x96#8 (.zpy p) s s.regs.x) ∧
    (∀ a, WritesAs (.stxAbs a) 0x8E#8 (.abs a) s s.regs.x) ∧
    (∀ p, WritesAs (.styZp p) 0x84#8 (.zp p) s s.regs.y) ∧
    (∀ p, WritesAs (.styZpx p) 0x94#8 (.zpx p) s s.regs.y) ∧
    (∀ a, WritesAs (.styAbs a) 0x8C#8 (.abs a) s s.regs.y)

/-- R207 to R212 and R141 (general knowledge, decision D33). -/
def Obligations.TransfersCopyARegister : Prop :=
  ∀ s : State,
    ImpliedAs .tax 0xAA#8 s (fun r => { r with x := r.a, z := r.a == 0#8, n := r.a.getLsbD 7 }) ∧
    ImpliedAs .tay 0xA8#8 s (fun r => { r with y := r.a, z := r.a == 0#8, n := r.a.getLsbD 7 }) ∧
    ImpliedAs .txa 0x8A#8 s (fun r => { r with a := r.x, z := r.x == 0#8, n := r.x.getLsbD 7 }) ∧
    ImpliedAs .tya 0x98#8 s (fun r => { r with a := r.y, z := r.y == 0#8, n := r.y.getLsbD 7 }) ∧
    ImpliedAs .tsx 0xBA#8 s (fun r => { r with x := r.sp, z := r.sp == 0#8, n := r.sp.getLsbD 7 }) ∧
    ImpliedAs .txs 0x9A#8 s (fun r => { r with sp := r.x })

/-- R222 with AddC of R220, whatever D holds (R32); forms as for LDA, whose dummy reads rest on decisions D7 and D8. -/
def Obligations.AdcAddsWithCarry : Prop :=
  ∀ s : State,
    let add : Byte → RegisterFile → RegisterFile := fun m r =>
      let sum := r.a.toNat + m.toNat + r.c.toNat
      let res := BitVec.ofNat 8 sum
      { r with
        a := res, c := decide (0xFF < sum), v := ((~~~r.a ^^^ m) &&& (r.a ^^^ res) &&& 0x80#8) != 0#8
        z := res == 0#8, n := res.getLsbD 7 }
    (∀ v, ReadsAs (.adcImm v) 0x69#8 (.imm v) s add) ∧
    (∀ p, ReadsAs (.adcZp p) 0x65#8 (.zp p) s add) ∧
    (∀ p, ReadsAs (.adcZpx p) 0x75#8 (.zpx p) s add) ∧
    (∀ a, ReadsAs (.adcAbs a) 0x6D#8 (.abs a) s add) ∧
    (∀ a, ReadsAs (.adcAbx a) 0x7D#8 (.abx a) s add) ∧
    (∀ a, ReadsAs (.adcAby a) 0x79#8 (.aby a) s add) ∧
    (∀ p, ReadsAs (.adcIzx p) 0x61#8 (.izx p) s add) ∧
    (∀ p, ReadsAs (.adcIzy p) 0x71#8 (.izy p) s add)

/-- R223, whatever D holds (R32); forms as for LDA, whose dummy reads rest on decisions D7 and D8. -/
def Obligations.SbcSubtractsWithBorrow : Prop :=
  ∀ s : State,
    let sub : Byte → RegisterFile → RegisterFile := fun m r =>
      let borrow := 1 - r.c.toNat
      let res := BitVec.ofInt 8 ((r.a.toNat : Int) - m.toNat - borrow)
      { r with
        a := res, c := decide (m.toNat + borrow ≤ r.a.toNat), v := ((r.a ^^^ res) &&& (r.a ^^^ m) &&& 0x80#8) != 0#8
        z := res == 0#8, n := res.getLsbD 7 }
    (∀ v, ReadsAs (.sbcImm v) 0xE9#8 (.imm v) s sub) ∧
    (∀ p, ReadsAs (.sbcZp p) 0xE5#8 (.zp p) s sub) ∧
    (∀ p, ReadsAs (.sbcZpx p) 0xF5#8 (.zpx p) s sub) ∧
    (∀ a, ReadsAs (.sbcAbs a) 0xED#8 (.abs a) s sub) ∧
    (∀ a, ReadsAs (.sbcAbx a) 0xFD#8 (.abx a) s sub) ∧
    (∀ a, ReadsAs (.sbcAby a) 0xF9#8 (.aby a) s sub) ∧
    (∀ p, ReadsAs (.sbcIzx p) 0xE1#8 (.izx p) s sub) ∧
    (∀ p, ReadsAs (.sbcIzy p) 0xF1#8 (.izy p) s sub)

/-- R224 to R226, which the spec marks as general knowledge. -/
def Obligations.AndOraEorCombineWithAccumulator : Prop :=
  ∀ s : State,
    let conj : Byte → RegisterFile → RegisterFile := fun m r =>
      { r with a := r.a &&& m, z := (r.a &&& m) == 0#8, n := (r.a &&& m).getLsbD 7 }
    let disj : Byte → RegisterFile → RegisterFile := fun m r =>
      { r with a := r.a ||| m, z := (r.a ||| m) == 0#8, n := (r.a ||| m).getLsbD 7 }
    let excl : Byte → RegisterFile → RegisterFile := fun m r =>
      { r with a := r.a ^^^ m, z := (r.a ^^^ m) == 0#8, n := (r.a ^^^ m).getLsbD 7 }
    (∀ v, ReadsAs (.andImm v) 0x29#8 (.imm v) s conj) ∧
    (∀ p, ReadsAs (.andZp p) 0x25#8 (.zp p) s conj) ∧
    (∀ p, ReadsAs (.andZpx p) 0x35#8 (.zpx p) s conj) ∧
    (∀ a, ReadsAs (.andAbs a) 0x2D#8 (.abs a) s conj) ∧
    (∀ a, ReadsAs (.andAbx a) 0x3D#8 (.abx a) s conj) ∧
    (∀ a, ReadsAs (.andAby a) 0x39#8 (.aby a) s conj) ∧
    (∀ p, ReadsAs (.andIzx p) 0x21#8 (.izx p) s conj) ∧
    (∀ p, ReadsAs (.andIzy p) 0x31#8 (.izy p) s conj) ∧
    (∀ v, ReadsAs (.oraImm v) 0x09#8 (.imm v) s disj) ∧
    (∀ p, ReadsAs (.oraZp p) 0x05#8 (.zp p) s disj) ∧
    (∀ p, ReadsAs (.oraZpx p) 0x15#8 (.zpx p) s disj) ∧
    (∀ a, ReadsAs (.oraAbs a) 0x0D#8 (.abs a) s disj) ∧
    (∀ a, ReadsAs (.oraAbx a) 0x1D#8 (.abx a) s disj) ∧
    (∀ a, ReadsAs (.oraAby a) 0x19#8 (.aby a) s disj) ∧
    (∀ p, ReadsAs (.oraIzx p) 0x01#8 (.izx p) s disj) ∧
    (∀ p, ReadsAs (.oraIzy p) 0x11#8 (.izy p) s disj) ∧
    (∀ v, ReadsAs (.eorImm v) 0x49#8 (.imm v) s excl) ∧
    (∀ p, ReadsAs (.eorZp p) 0x45#8 (.zp p) s excl) ∧
    (∀ p, ReadsAs (.eorZpx p) 0x55#8 (.zpx p) s excl) ∧
    (∀ a, ReadsAs (.eorAbs a) 0x4D#8 (.abs a) s excl) ∧
    (∀ a, ReadsAs (.eorAbx a) 0x5D#8 (.abx a) s excl) ∧
    (∀ a, ReadsAs (.eorAby a) 0x59#8 (.aby a) s excl) ∧
    (∀ p, ReadsAs (.eorIzx p) 0x41#8 (.izx p) s excl) ∧
    (∀ p, ReadsAs (.eorIzy p) 0x51#8 (.izy p) s excl)

/-- R227, which the spec marks as general knowledge. -/
def Obligations.BitTestsWithoutWriting : Prop :=
  ∀ s : State,
    let test : Byte → RegisterFile → RegisterFile := fun m r =>
      { r with z := (r.a &&& m) == 0#8, n := m.getLsbD 7, v := m.getLsbD 6 }
    (∀ p, ReadsAs (.bitZp p) 0x24#8 (.zp p) s test) ∧
    (∀ a, ReadsAs (.bitAbs a) 0x2C#8 (.abs a) s test)

/-- R228 with Compare of R221; forms as for LDA, whose dummy reads rest on decisions D7 and D8. -/
def Obligations.CmpComparesAccumulator : Prop :=
  ∀ s : State,
    let compare : Byte → RegisterFile → RegisterFile := fun m r =>
      { r with c := decide (m.toNat ≤ r.a.toNat), z := r.a == m, n := (r.a - m).getLsbD 7 }
    (∀ v, ReadsAs (.cmpImm v) 0xC9#8 (.imm v) s compare) ∧
    (∀ p, ReadsAs (.cmpZp p) 0xC5#8 (.zp p) s compare) ∧
    (∀ p, ReadsAs (.cmpZpx p) 0xD5#8 (.zpx p) s compare) ∧
    (∀ a, ReadsAs (.cmpAbs a) 0xCD#8 (.abs a) s compare) ∧
    (∀ a, ReadsAs (.cmpAbx a) 0xDD#8 (.abx a) s compare) ∧
    (∀ a, ReadsAs (.cmpAby a) 0xD9#8 (.aby a) s compare) ∧
    (∀ p, ReadsAs (.cmpIzx p) 0xC1#8 (.izx p) s compare) ∧
    (∀ p, ReadsAs (.cmpIzy p) 0xD1#8 (.izy p) s compare)

/-- R221, R229 and R230, whole; the sequences are R143, R144 and R150, which have no dummy access. -/
def Obligations.CpxAndCpyCompareTheIndexRegisters : Prop :=
  ∀ s : State,
    let compareX : Byte → RegisterFile → RegisterFile := fun m r =>
      { r with c := decide (m.toNat ≤ r.x.toNat), z := r.x == m, n := (r.x - m).getLsbD 7 }
    let compareY : Byte → RegisterFile → RegisterFile := fun m r =>
      { r with c := decide (m.toNat ≤ r.y.toNat), z := r.y == m, n := (r.y - m).getLsbD 7 }
    (∀ v, ReadsAs (.cpxImm v) 0xE0#8 (.imm v) s compareX) ∧
    (∀ p, ReadsAs (.cpxZp p) 0xE4#8 (.zp p) s compareX) ∧
    (∀ a, ReadsAs (.cpxAbs a) 0xEC#8 (.abs a) s compareX) ∧
    (∀ v, ReadsAs (.cpyImm v) 0xC0#8 (.imm v) s compareY) ∧
    (∀ p, ReadsAs (.cpyZp p) 0xC4#8 (.zp p) s compareY) ∧
    (∀ a, ReadsAs (.cpyAbs a) 0xCC#8 (.abs a) s compareY)

/-- R231 and R232, with the sequences R146, R149, R152, R155; the dummy write is general knowledge and decision D12. -/
def Obligations.IncAndDecModifyMemory : Prop :=
  ∀ s : State,
    let up : Byte → Byte × Option Bool := fun m => (BitVec.ofNat 8 (m.toNat + 1), none)
    let down : Byte → Byte × Option Bool := fun m => (BitVec.ofInt 8 ((m.toNat : Int) - 1), none)
    (∀ p, ModifiesAs (.incZp p) 0xE6#8 (.zp p) s up) ∧
    (∀ p, ModifiesAs (.incZpx p) 0xF6#8 (.zpx p) s up) ∧
    (∀ a, ModifiesAs (.incAbs a) 0xEE#8 (.abs a) s up) ∧
    (∀ a, ModifiesAs (.incAbx a) 0xFE#8 (.abx a) s up) ∧
    (∀ p, ModifiesAs (.decZp p) 0xC6#8 (.zp p) s down) ∧
    (∀ p, ModifiesAs (.decZpx p) 0xD6#8 (.zpx p) s down) ∧
    (∀ a, ModifiesAs (.decAbs a) 0xCE#8 (.abs a) s down) ∧
    (∀ a, ModifiesAs (.decAbx a) 0xDE#8 (.abx a) s down)

/-- R233 to R236 and R141 (general knowledge, decision D33). -/
def Obligations.IndexIncrementsAndDecrementsWrap : Prop :=
  ∀ s : State,
    ImpliedAs .inx 0xE8#8 s (fun r => { r with x := BitVec.ofNat 8 (r.x.toNat + 1), z := BitVec.ofNat 8 (r.x.toNat + 1) == 0#8, n := (BitVec.ofNat 8 (r.x.toNat + 1)).getLsbD 7 }) ∧
    ImpliedAs .iny 0xC8#8 s (fun r => { r with y := BitVec.ofNat 8 (r.y.toNat + 1), z := BitVec.ofNat 8 (r.y.toNat + 1) == 0#8, n := (BitVec.ofNat 8 (r.y.toNat + 1)).getLsbD 7 }) ∧
    ImpliedAs .dex 0xCA#8 s (fun r => { r with x := BitVec.ofInt 8 ((r.x.toNat : Int) - 1), z := BitVec.ofInt 8 ((r.x.toNat : Int) - 1) == 0#8, n := (BitVec.ofInt 8 ((r.x.toNat : Int) - 1)).getLsbD 7 }) ∧
    ImpliedAs .dey 0x88#8 s (fun r => { r with y := BitVec.ofInt 8 ((r.y.toNat : Int) - 1), z := BitVec.ofInt 8 ((r.y.toNat : Int) - 1) == 0#8, n := (BitVec.ofInt 8 ((r.y.toNat : Int) - 1)).getLsbD 7 })

/-- R240 to R242; the dummy accesses of R142 and R146 rest on decisions D12 and D33. -/
def Obligations.AslAndLsrShiftByOneBit : Prop :=
  ∀ s : State,
    let asl : Byte → Byte × Bool := fun v => (BitVec.ofNat 8 (v.toNat <<< 1 &&& 0xFF), v.getLsbD 7)
    let aslMem : Byte → Byte × Option Bool := fun v => ((asl v).1, some (asl v).2)
    let lsr : Byte → Byte × Bool := fun v => (BitVec.ofNat 8 (v.toNat >>> 1), v.getLsbD 0)
    let lsrMem : Byte → Byte × Option Bool := fun v => ((lsr v).1, some (lsr v).2)
    AccumulatorAs .aslAcc 0x0A#8 s asl ∧
    (∀ p, ModifiesAs (.aslZp p) 0x06#8 (.zp p) s aslMem) ∧
    (∀ p, ModifiesAs (.aslZpx p) 0x16#8 (.zpx p) s aslMem) ∧
    (∀ a, ModifiesAs (.aslAbs a) 0x0E#8 (.abs a) s aslMem) ∧
    (∀ a, ModifiesAs (.aslAbx a) 0x1E#8 (.abx a) s aslMem) ∧
    AccumulatorAs .lsrAcc 0x4A#8 s lsr ∧
    (∀ p, ModifiesAs (.lsrZp p) 0x46#8 (.zp p) s lsrMem) ∧
    (∀ p, ModifiesAs (.lsrZpx p) 0x56#8 (.zpx p) s lsrMem) ∧
    (∀ a, ModifiesAs (.lsrAbs a) 0x4E#8 (.abs a) s lsrMem) ∧
    (∀ a, ModifiesAs (.lsrAbx a) 0x5E#8 (.abx a) s lsrMem)

/-- R240, R243 and R244; the carry-in is the spec's general knowledge, the dummy accesses rest on decisions D12 and D33. -/
def Obligations.RolAndRorRotateThroughCarry : Prop :=
  ∀ s : State,
    let rol : Byte → Byte × Bool := fun v => (BitVec.ofNat 8 ((v.toNat <<< 1 ||| s.regs.c.toNat) &&& 0xFF), v.getLsbD 7)
    let rolMem : Byte → Byte × Option Bool := fun v => ((rol v).1, some (rol v).2)
    let ror : Byte → Byte × Bool := fun v => (BitVec.ofNat 8 (s.regs.c.toNat <<< 7 ||| v.toNat >>> 1), v.getLsbD 0)
    let rorMem : Byte → Byte × Option Bool := fun v => ((ror v).1, some (ror v).2)
    AccumulatorAs .rolAcc 0x2A#8 s rol ∧
    (∀ p, ModifiesAs (.rolZp p) 0x26#8 (.zp p) s rolMem) ∧
    (∀ p, ModifiesAs (.rolZpx p) 0x36#8 (.zpx p) s rolMem) ∧
    (∀ a, ModifiesAs (.rolAbs a) 0x2E#8 (.abs a) s rolMem) ∧
    (∀ a, ModifiesAs (.rolAbx a) 0x3E#8 (.abx a) s rolMem) ∧
    AccumulatorAs .rorAcc 0x6A#8 s ror ∧
    (∀ p, ModifiesAs (.rorZp p) 0x66#8 (.zp p) s rorMem) ∧
    (∀ p, ModifiesAs (.rorZpx p) 0x76#8 (.zpx p) s rorMem) ∧
    (∀ a, ModifiesAs (.rorAbs a) 0x6E#8 (.abs a) s rorMem) ∧
    (∀ a, ModifiesAs (.rorAbx a) 0x7E#8 (.abx a) s rorMem)

/-- R251 and R252 with R165, R13 and R33 (decisions D3, D4, D28). -/
def Obligations.PhaAndPhpPushOneByte : Prop :=
  ∀ s : State,
    let fl : Bool → Nat := Bool.toNat
    let status : Byte := BitVec.ofNat 8 (fl s.regs.n * 128 + fl s.regs.v * 64 + 32 + 16 + fl s.regs.d * 8 +
      fl s.regs.i * 4 + fl s.regs.z * 2 + fl s.regs.c)
    let pushes : Instr → Byte → Byte → Prop := fun i op v =>
      encode i = [op] ∧
      Completes i s
        [(.read, s.regs.pc, op), (.dummyRead, s.regs.pc + 1#16, valueAt 2 (s.regs.pc + 1#16) s),
          (.write, 0x01#8 ++ s.regs.sp, v)]
        { pcAfter 1 s with sp := s.regs.sp - 1#8 } (fun a => if a = 0x01#8 ++ s.regs.sp then v else s.readMem a)
    pushes .pha 0x48#8 s.regs.a ∧ pushes .php 0x08#8 status

/-- R253 and R254 with R166, R13 and R33 (decisions D3, D4, D28). -/
def Obligations.PlaAndPlpPullOneByte : Prop :=
  ∀ s : State,
    let top : Addr := 0x01#8 ++ (s.regs.sp + 1#8)
    let v := valueAt 4 top s
    let pulls : Instr → Byte → RegisterFile → Prop := fun i op regs =>
      encode i = [op] ∧
      Completes i s
        [(.read, s.regs.pc, op), (.dummyRead, s.regs.pc + 1#16, valueAt 2 (s.regs.pc + 1#16) s),
          (.dummyRead, 0x01#8 ++ s.regs.sp, valueAt 3 (0x01#8 ++ s.regs.sp) s), (.read, top, v)]
        regs s.readMem
    pulls .pla 0x68#8 { pcAfter 1 s with sp := s.regs.sp + 1#8, a := v, z := v == 0#8, n := v.getLsbD 7 } ∧
    pulls .plp 0x28#8
      { pcAfter 1 s with
        sp := s.regs.sp + 1#8, n := v.getLsbD 7, v := v.getLsbD 6, d := v.getLsbD 3, i := v.getLsbD 2
        z := v.getLsbD 1, c := v.getLsbD 0 }

/-- R260 to R268 with R98 and R160; all conditions but BCC's and the dummy addresses are the spec's general knowledge (decision D27). -/
def Obligations.BranchesTestOneFlag : Prop :=
  ∀ (s : State) (offset : Byte),
    BranchesAs (.bpl offset) 0x10#8 offset s (!s.regs.n) ∧
    BranchesAs (.bmi offset) 0x30#8 offset s s.regs.n ∧
    BranchesAs (.bvc offset) 0x50#8 offset s (!s.regs.v) ∧
    BranchesAs (.bvs offset) 0x70#8 offset s s.regs.v ∧
    BranchesAs (.bcc offset) 0x90#8 offset s (!s.regs.c) ∧
    BranchesAs (.bcs offset) 0xB0#8 offset s s.regs.c ∧
    BranchesAs (.bne offset) 0xD0#8 offset s (!s.regs.z) ∧
    BranchesAs (.beq offset) 0xF0#8 offset s s.regs.z

/-- R97, R161, R162 and R269, whole: the rows clock by clock and the page wrap. -/
def Obligations.JmpLoadsPc : Prop :=
  ∀ (s : State) (target ptr : Addr),
    let pc := s.regs.pc
    let high : Addr := hi ptr ++ (lo ptr + 1#8)
    (encode (.jmpAbs target) = [0x4C#8, lo target, hi target] ∧
      Completes (.jmpAbs target) s
        [(.read, pc, 0x4C#8), (.read, pc + 1#16, lo target), (.read, pc + 2#16, hi target)]
        { s.regs with pc := target } s.readMem) ∧
    (encode (.jmpInd ptr) = [0x6C#8, lo ptr, hi ptr] ∧
      Completes (.jmpInd ptr) s
        [(.read, pc, 0x6C#8), (.read, pc + 1#16, lo ptr), (.read, pc + 2#16, hi ptr),
          (.read, ptr, valueAt 4 ptr s), (.read, high, valueAt 5 high s)]
        { s.regs with pc := valueAt 5 high s ++ valueAt 4 ptr s } s.readMem)

/-- R270 with R163 (decision D11: both target bytes are read before the pushes). -/
def Obligations.JsrPushesItsLastByteAddress : Prop :=
  ∀ (s : State) (target : Addr),
    let pc := s.regs.pc
    let ret := pc + 2#16
    let first : Addr := 0x01#8 ++ s.regs.sp
    let second : Addr := 0x01#8 ++ (s.regs.sp - 1#8)
    encode (.jsr target) = [0x20#8, lo target, hi target] ∧
      Completes (.jsr target) s
        [(.read, pc, 0x20#8), (.read, pc + 1#16, lo target), (.read, pc + 2#16, hi target),
          (.dummyRead, first, valueAt 4 first s), (.write, first, hi ret), (.write, second, lo ret)]
        { s.regs with pc := target, sp := s.regs.sp - 2#8 }
        (fun a => if a = second then lo ret else if a = first then hi ret else s.readMem a)

/-- R271 with R164 (the dummy addresses are decision D28, the stack page decision D3). -/
def Obligations.RtsPullsPcAndAddsOne : Prop :=
  ∀ s : State,
    let pc := s.regs.pc
    let sp := s.regs.sp
    let a1 : Addr := 0x01#8 ++ (sp + 1#8)
    let a2 : Addr := 0x01#8 ++ (sp + 2#8)
    let target : Addr := valueAt 5 a2 s ++ valueAt 4 a1 s
    encode .rts = [0x60#8] ∧
      Completes .rts s
        [(.read, pc, 0x60#8), (.dummyRead, pc + 1#16, valueAt 2 (pc + 1#16) s),
          (.dummyRead, 0x01#8 ++ sp, valueAt 3 (0x01#8 ++ sp) s), (.read, a1, valueAt 4 a1 s),
          (.read, a2, valueAt 5 a2 s), (.dummyRead, target, valueAt 6 target s)]
        { s.regs with pc := target + 1#16, sp := sp + 2#8 } s.readMem

/-- R270 and R271: the +1 undoes the "decrement PC" of JSR; over every subroutine body, one that pushes or calls too, that brings SP back and keeps the two bytes. -/
def Obligations.JsrThenRtsReturns : Prop :=
  ∀ (s t u : State) (target : Addr), exec (.jsr target) s = .next t → u.regs.sp = t.regs.sp →
    let first : Addr := 0x01#8 ++ s.regs.sp
    let second : Addr := 0x01#8 ++ (s.regs.sp - 1#8)
    valueAt 5 first u = t.readMem first → valueAt 4 second u = t.readMem second →
    ∃ w, exec .rts u = .next w ∧ w.regs = { u.regs with pc := s.regs.pc + 3#16, sp := s.regs.sp }

/-- R280 to R288 with R141 (general knowledge, decision D33). -/
def Obligations.FlagInstructionsWriteOneFlag : Prop :=
  ∀ s : State,
    ImpliedAs .clc 0x18#8 s (fun r => { r with c := false }) ∧
    ImpliedAs .cld 0xD8#8 s (fun r => { r with d := false }) ∧
    ImpliedAs .cli 0x58#8 s (fun r => { r with i := false }) ∧
    ImpliedAs .clv 0xB8#8 s (fun r => { r with v := false }) ∧
    ImpliedAs .sec 0x38#8 s (fun r => { r with c := true }) ∧
    ImpliedAs .sed 0xF8#8 s (fun r => { r with d := true }) ∧
    ImpliedAs .sei 0x78#8 s (fun r => { r with i := true }) ∧
    ImpliedAs .nop 0xEA#8 s (fun r => r)

/-- R289 with R167 and R308 (the return address is general knowledge and decision D10). -/
def Obligations.BrkEntersThroughTheIrqVector : Prop :=
  ∀ s : State,
    let fl : Bool → Nat := Bool.toNat
    let status : Byte := BitVec.ofNat 8 (fl s.regs.n * 128 + fl s.regs.v * 64 + 32 + 16 + fl s.regs.d * 8 +
      fl s.regs.i * 4 + fl s.regs.z * 2 + fl s.regs.c)
    encode .brk = [0x00#8] ∧
      Completes .brk s
        ((.read, s.regs.pc, 0x00#8) :: (.dummyRead, s.regs.pc + 1#16, valueAt 2 (s.regs.pc + 1#16) s) ::
          entrySlots 0xFFFE#16 (s.regs.pc + 2#16) status s)
        (entryRegs 0xFFFE#16 s) (entryMem (s.regs.pc + 2#16) status s)

/-- R290 with R168 and R33 (bits 5 and 4 of p are ignored). -/
def Obligations.RtiRestoresFlagsAndPc : Prop :=
  ∀ s : State,
    let pc := s.regs.pc
    let sp := s.regs.sp
    let a1 : Addr := 0x01#8 ++ (sp + 1#8)
    let a2 : Addr := 0x01#8 ++ (sp + 2#8)
    let a3 : Addr := 0x01#8 ++ (sp + 3#8)
    let p := valueAt 4 a1 s
    encode .rti = [0x40#8] ∧
      Completes .rti s
        [(.read, pc, 0x40#8), (.dummyRead, pc + 1#16, valueAt 2 (pc + 1#16) s),
          (.dummyRead, 0x01#8 ++ sp, valueAt 3 (0x01#8 ++ sp) s), (.read, a1, p), (.read, a2, valueAt 5 a2 s),
          (.read, a3, valueAt 6 a3 s)]
        { s.regs with
          pc := valueAt 6 a3 s ++ valueAt 5 a2 s, sp := sp + 3#8, n := p.getLsbD 7, v := p.getLsbD 6, d := p.getLsbD 3
          i := p.getLsbD 2, z := p.getLsbD 1, c := p.getLsbD 0 }
        s.readMem

/-- R306, clock by clock, for every state. -/
def Obligations.ArbitrationOrder : Prop :=
  ∀ s : State,
    (∀ f, s.halted = some f → clock s = s) ∧
    (s.halted = none → s.stallCycles ≠ 0 → clock s = stalledClock s ∧ (clock s).seq = s.seq ∧
      (clock s).latches = s.latches ∧ (clock s).stallCycles + 1 = s.stallCycles) ∧
    (s.halted = none → s.stallCycles = 0 → s.seq.phase = .idle →
      (s.latches.nmiPending = true →
        (clock s).seq.phase = .nmiSeq ∧ (clock s).seq.t = 1 ∧ (clock s).latches.nmiPending = false) ∧
      (s.latches.nmiPending = false → s.irqIn = true → s.regs.i = false →
        (clock s).seq.phase = .irqSeq ∧ (clock s).seq.t = 1 ∧ (clock s).latches.irqLineAsserted = true) ∧
      (s.latches.nmiPending = false → (s.irqIn = false ∨ s.regs.i = true) →
        match lookup (instrByte 0 s) with
        | some e => (clock s).seq.phase = .exec ∧ (clock s).seq.t = 1 ∧ (clock s).seq.mnemonic = e.mnemonic
        | none => (clock s).halted = some (.unknownOpcode (instrByte 0 s) s.regs.pc))) ∧
    (s.halted = none → s.stallCycles = 0 → s.seq.phase ≠ .idle →
      ((clock s).seq.phase = s.seq.phase ∨ (clock s).seq.phase = .idle) ∧
      (clock s).latches.nmiPending = s.latches.nmiPending)

/-- R302, R303 and R308 (decisions D9, D30). -/
def Obligations.NmiIsTakenWhateverIHolds : Prop :=
  ∀ s : State, s.halted = none → s.stallCycles = 0 → s.seq.phase = .idle → s.latches.nmiPending = true →
    let fl : Bool → Nat := Bool.toNat
    let status : Byte := BitVec.ofNat 8 (fl s.regs.n * 128 + fl s.regs.v * 64 + 32 + fl s.regs.d * 8 +
      fl s.regs.i * 4 + fl s.regs.z * 2 + fl s.regs.c)
    EndsWith (step s) s false
      ((.dummyRead, s.regs.pc, valueAt 1 s.regs.pc s) :: (.dummyRead, s.regs.pc, valueAt 2 s.regs.pc s) ::
        entrySlots 0xFFFA#16 s.regs.pc status s)
      (entryRegs 0xFFFA#16 s) (entryMem s.regs.pc status s)

/-- R304 with R302 and R308 (decision D9). -/
def Obligations.IrqIsTakenWhenUnmasked : Prop :=
  ∀ s : State, s.halted = none → s.stallCycles = 0 → s.seq.phase = .idle → s.latches.nmiPending = false →
    s.irqIn = true → s.regs.i = false →
    let fl : Bool → Nat := Bool.toNat
    let status : Byte := BitVec.ofNat 8 (fl s.regs.n * 128 + fl s.regs.v * 64 + 32 + fl s.regs.d * 8 +
      fl s.regs.i * 4 + fl s.regs.z * 2 + fl s.regs.c)
    EndsWith (step s) s false
      ((.dummyRead, s.regs.pc, valueAt 1 s.regs.pc s) :: (.dummyRead, s.regs.pc, valueAt 2 s.regs.pc s) ::
        entrySlots 0xFFFE#16 s.regs.pc status s)
      (entryRegs 0xFFFE#16 s) (entryMem s.regs.pc status s) ∧
    ∀ t, step s = .next t → t.irqIn = true ∧ t.latches.irqLineAsserted = true ∧ arbitrate t = .instruction

/-- R309 and R289, over every handler, one that pushes, calls or is interrupted too, that brings SP back and keeps the three bytes. -/
def Obligations.RtiUndoesInterruptEntry : Prop :=
  ∀ (s t u : State) (ret : Addr),
    ((t = takeNmi s ∧ ret = s.regs.pc) ∨ (t = takeIrq s ∧ ret = s.regs.pc) ∨
      (exec .brk s = .next t ∧ ret = s.regs.pc + 2#16)) →
    u.regs.sp = t.regs.sp →
    let first : Addr := 0x01#8 ++ s.regs.sp
    let second : Addr := 0x01#8 ++ (s.regs.sp - 1#8)
    let third : Addr := 0x01#8 ++ (s.regs.sp - 2#8)
    valueAt 6 first u = t.readMem first → valueAt 5 second u = t.readMem second →
    valueAt 4 third u = t.readMem third →
    ∃ w, exec .rti u = .next w ∧
      w.regs = { u.regs with
        pc := ret, sp := s.regs.sp, c := s.regs.c, z := s.regs.z, i := s.regs.i, d := s.regs.d, v := s.regs.v
        n := s.regs.n } ∧
      ∀ a, w.readMem a = u.readMem a

/-- R314 and R349: no one-instruction delay. -/
def Obligations.ChangeOfIGovernsTheNextIdleClock : Prop :=
  ∀ s t : State, s.halted = none → s.stallCycles = 0 → s.latches.nmiPending = false → s.irqIn = true →
    let pulled := valueAt 4 (0x01#8 ++ (s.regs.sp + 1#8)) s
    (exec .cli s = .next t → step t = .next (takeIrq t)) ∧
    (exec .sei s = .next t → ∀ j rest, decode (fetchedBytes t) = .ok (j, rest) → step t = exec j t) ∧
    (exec .plp s = .next t →
      (pulled.getLsbD 2 = false → step t = .next (takeIrq t)) ∧
      (pulled.getLsbD 2 = true → ∀ j rest, decode (fetchedBytes t) = .ok (j, rest) → step t = exec j t)) ∧
    (exec .rti s = .next t →
      (pulled.getLsbD 2 = false → step t = .next (takeIrq t)) ∧
      (pulled.getLsbD 2 = true → ∀ j rest, decode (fetchedBytes t) = .ok (j, rest) → step t = exec j t))

/-- R139, R140, R351. The clock number is the model's own field (log 4). -/
def Obligations.StallFreezesTheCore : Prop :=
  ∀ (s : State) (n : Nat), s.halted = none →
    (n ≤ s.stallCycles →
      clocks n s = { s with stallCycles := s.stallCycles - n, bus := { s.bus with now := s.bus.now + n } }) ∧
    clocks (s.stallCycles + n) s =
      clocks n { s with stallCycles := 0, bus := { s.bus with now := s.bus.now + s.stallCycles } }

/-- R43, R312, R344; for LoadResetVector it is log 14. -/
def Obligations.HaltedStaysHalted : Prop :=
  ∀ (s : State) (f : Fault) (n : Nat) (r : RegisterFile), s.halted = some f →
    clocks n s = s ∧ step s = .fault f ∧ triggerNmi s = s ∧ assertIrqLine s = s ∧ deassertIrqLine s = s ∧
    addStall n s = .next s ∧ restore r s = .next s ∧ loadResetVector s = s

/-- R104, R133, R310, R312. No claim is made about the registers of the halted core. -/
def Obligations.UnknownOpcodeHalts : Prop :=
  ∀ (s : State) (n : Nat), Ready s → lookup (instrByte 0 s) = none →
    let f : Fault := .unknownOpcode (instrByte 0 s) s.regs.pc
    step s = .fault f ∧ f.causeCode = some 1 ∧ (clock s).halted = some f ∧
    (clock s).bus.trace = ⟨s.bus.now + 1, .read, s.regs.pc, instrByte 0 s⟩ :: s.bus.trace ∧
    (clock s).mem = s.mem ∧ (clock s).irqIn = s.irqIn ∧ clocks (n + 1) s = clock s

/-- R44, R340, R341. That State.reset is the state before the load is log 7; that the two reads carry the clock number bus.now is log 4; that the load does the same in any running state, also later than before the first clock, is log 16. -/
def Obligations.ResetStateHoldsTheSpecValues : Prop :=
  let z := State.reset
  (z.regs = { pc := 0#16, sp := 0xFD#8, a := 0#8, x := 0#8, y := 0#8, c := false, z := false, i := true, d := false
              v := false, n := false } ∧
    z.seq.phase = .idle ∧ z.seq.t = 0 ∧ remainingCycles z = 0 ∧ z.seq.effectiveAddress = none ∧ z.seq.operand = none ∧
    z.seq.tempLatch = none ∧ z.seq.crossed = false ∧ z.latches = ⟨false, false⟩ ∧ z.stallCycles = 0 ∧
    z.halted = none) ∧
  ∀ s : State, s.halted = none →
    let h := answerAt s.bus.now 0xFFFD#16 s
    let l := answerAt s.bus.now 0xFFFC#16 s
    loadResetVector s =
      { s with
        regs := { s.regs with pc := h ++ l }
        bus := { s.bus with
          trace := ⟨s.bus.now, .read, 0xFFFC#16, l⟩ :: ⟨s.bus.now, .read, 0xFFFD#16, h⟩ :: s.bus.trace } }

/-- The invariant State.wf of Safety.lean at reset; its memory clause is about the model's own form of memory (log 1). -/
def Obligations.ResetMeetsTheInvariant : Prop :=
  State.reset.wf = true ∧ (loadResetVector State.reset).wf = true

/-- R39, R42, R172 as an invariant over all states that meet it, runs or not; the canonical form of memory is the model's own (log 1). -/
def Obligations.StepKeepsTheInvariant : Prop :=
  ∀ s t : State, s.wf = true → step s = .next t → t.wf = true

/-- R39, R42, R172 at the level of clocks. That LoadResetVector may be called in any running state is log 16. -/
def Obligations.ClocksAndHostCallsKeepTheInvariant : Prop :=
  ∀ s : State, s.wf = true →
    (clock s).wf = true ∧ (triggerNmi s).wf = true ∧ (assertIrqLine s).wf = true ∧ (deassertIrqLine s).wf = true ∧
    (loadResetVector s).wf = true ∧ (∀ n t, addStall n s = .next t → t.wf = true) ∧
    ∀ r t, restore r s = .next t → t.wf = true

/-- R313, with the invariant State.wf (kept by every clock and step by statements of their own) as its premise; it covers runs from every such state. -/
def Obligations.NoOtherExceptionExists : Prop :=
  ∀ (s : State) (f : Fault), s.wf = true → s.halted = none →
    (step s = .fault f ∨ (clock s).halted = some f →
      s.seq.phase = .idle ∧ f = .unknownOpcode (instrByte 0 s) s.regs.pc ∧ lookup (instrByte 0 s) = none) ∧
    ∀ r, step s ≠ .refused r

/-- R6, R130 to R135, R171: exec folds the clocks of the tables R141 to R168, which Clock.lean gives row by row. -/
def Obligations.ExecIsItsClocks : Prop :=
  ∀ (s : State) (i : Instr) (rest : List Byte), Ready s → decode (fetchedBytes s) = .ok (i, rest) →
    (∀ k, 1 ≤ k → k < clocksOf i s →
      (clocks k s).seq.phase = .exec ∧ (clocks k s).seq.t = k ∧ (clocks k s).halted = none) ∧
    exec i s = .next (clocks (clocksOf i s) s)

/-- R6, R130, R131, R302, R352; the step is the model's own form (log 3). -/
def Obligations.StepIsAtMostSevenClocks : Prop :=
  ∀ s : State, ∃ n, 1 ≤ n ∧ n ≤ 7 ∧ step s = outcomeOf (clocks n s)

/-- R38 and R134. -/
def Obligations.RemainingCyclesCountDown : Prop :=
  ∀ s : State, s.wf = true →
    (remainingCycles s = 0 ↔ s.seq.phase = .idle) ∧ remainingCycles s ≤ 7 ∧
    (s.halted = none → s.stallCycles = 0 → s.seq.phase ≠ .idle →
      let taken : Prop :=
        s.seq.mode = .rel ∧ s.seq.t = 1 ∧ branchCond s.seq.mnemonic s.regs = some true
      let crosses : Prop :=
        (s.seq.mode = .rel ∨ (kindOf s.seq.mnemonic = .read ∧ s.seq.mode ∈ [.abx, .aby, .izy])) ∧
          s.seq.crossed = false ∧ (clock s).seq.crossed = true
      (s.seq.phase = .exec ∧ (taken ∨ crosses) → remainingCycles (clock s) = remainingCycles s) ∧
      (¬(s.seq.phase = .exec ∧ (taken ∨ crosses)) → remainingCycles (clock s) + 1 = remainingCycles s)) ∧
    (Ready s → ∀ e, lookup (instrByte 0 s) = some e → remainingCycles (clock s) + 1 = e.cycles)

/-- R73, R69. -/
def Obligations.OneAccessPerClock : Prop :=
  ∀ s : State, s.wf = true →
    (s.halted ≠ none ∨ s.stallCycles ≠ 0 → (clock s).bus.trace = s.bus.trace) ∧
    (s.halted = none → s.stallCycles = 0 →
      (∃ k a v, (clock s).bus.trace = ⟨s.bus.now + 1, k, a, v⟩ :: s.bus.trace) ∨
        (s.config.dummyBus = .none ∧ (clock s).bus.trace = s.bus.trace))

/-- R8, R12, R170: a dummy access writes no register, and the byte a dummy write puts back is the byte that was read. -/
def Obligations.DummyAccessesChangeOnlyTheRecord : Prop :=
  ∀ (s t : State) (d : DummyBus) (tr : List Access), s.seq.phase = .idle → step s = .next t →
    ∃ tr', step { s with config := { s.config with dummyBus := d }, bus := { s.bus with trace := tr } } =
      .next { t with config := { t.config with dummyBus := d }, bus := { t.bus with trace := tr' } }

/-- R138. -/
def Obligations.RegistersChangeOnlyOnTheLastClock : Prop :=
  ∀ s : State, (clock s).seq.phase ≠ .idle →
    (clock s).regs = { s.regs with pc := (clock s).regs.pc, sp := (clock s).regs.sp } ∧
    (s.seq.phase = .exec → kindOf s.seq.mnemonic = .write → (clock s).mem = s.mem)

/-- R22 to R32, over every instruction and state. -/
def Obligations.OnlyTheListedInstructionsWrite : Prop :=
  ∀ (i : Instr) (s t : State), exec i s = .next t →
    (i.mnemonic ∉ [.lda, .pla, .txa, .tya, .adc, .sbc, .and, .ora, .eor] → i.mode ≠ .acc → t.regs.a = s.regs.a) ∧
    (i.mnemonic ∉ [.ldx, .tax, .tsx, .inx, .dex] → t.regs.x = s.regs.x) ∧
    (i.mnemonic ∉ [.ldy, .tay, .iny, .dey] → t.regs.y = s.regs.y) ∧
    (i.mnemonic ∉ [.txs, .pha, .php, .pla, .plp, .jsr, .rts, .brk, .rti] → t.regs.sp = s.regs.sp) ∧
    (i.mnemonic ∉ [.adc, .sbc, .cmp, .cpx, .cpy, .asl, .rol, .lsr, .ror, .clc, .sec, .plp, .rti] →
      t.regs.c = s.regs.c) ∧
    (i.mnemonic ∉ [.adc, .sbc, .bit, .clv, .plp, .rti] → t.regs.v = s.regs.v) ∧
    (i.mnemonic ∉ [.sei, .cli, .brk, .plp, .rti] → t.regs.i = s.regs.i) ∧
    (i.mnemonic ∉ [.sed, .cld, .plp, .rti] → t.regs.d = s.regs.d) ∧
    (i.mnemonic ∈ [.sta, .stx, .sty, .txs, .pha, .php, .bcc, .bcs, .beq, .bne, .bmi, .bpl, .bvc, .bvs, .jmp, .jsr, .rts,
        .clc, .cld, .cli, .clv, .sec, .sed, .sei, .nop, .brk] →
      t.regs.z = s.regs.z ∧ t.regs.n = s.regs.n)

/-- R316, R172, R352, R134, R36: one mode, every instruction available at all times. That the latches keep these values after END is log 10. -/
def Obligations.EveryInstructionCompletes : Prop :=
  ∀ (i : Instr) (s : State), ∃ t, exec i s = .next t ∧ t.seq.phase = .idle ∧
    t.seq.t = clocksOf i s ∧ t.bus.now = s.bus.now + clocksOf i s ∧ 2 ≤ clocksOf i s ∧ clocksOf i s ≤ 7 ∧
    i.cycles ≤ clocksOf i s ∧ clocksOf i s ≤ i.cycles + (if i.mode = .rel then 2 else 1) ∧
    lookup i.opcode = some ⟨t.seq.mnemonic, t.seq.mode, t.seq.baseCycles⟩ ∧
    t.seq.mnemonic = i.mnemonic ∧ t.seq.mode = i.mode ∧
    (∀ f, formOf i = some f → kindOf i.mnemonic ≠ .other →
      t.seq.crossed =
        match f with
        | .abx base | .aby base => hi base != hi (f.ea s)
        | .izy p => hi (izyBase p s) != hi (f.ea s)
        | _ => false)

/-- R40, R41, R139, R343 to R345, R350; the refusals are I8 and I10. -/
def Obligations.HostCallsChangeOnlyTheirField : Prop :=
  ∀ (s : State) (n : Nat) (r : RegisterFile), s.halted = none →
    triggerNmi s = { s with latches := { s.latches with nmiPending := true } } ∧
    triggerNmi (triggerNmi s) = triggerNmi s ∧
    assertIrqLine s = { s with irqIn := true } ∧ deassertIrqLine s = { s with irqIn := false } ∧
    (s.config.stallFits (s.stallCycles + n) = true →
      addStall n s = .next { s with stallCycles := s.stallCycles + n }) ∧
    (s.config.stallFits (s.stallCycles + n) = false → addStall n s = .refused .stallOverflow) ∧
    snapshot s = s.regs ∧
    (s.seq.phase = .idle →
      restore r s = .next { s with regs := r } ∧ restore (snapshot s) s = .next s ∧
      ∀ t, restore r s = .next t → snapshot t = r) ∧
    (s.seq.phase ≠ .idle → restore r s = .refused .restoreInFlight)

/-- R32. -/
def Obligations.DecimalFlagIsInert : Prop :=
  ∀ (i : Instr) (s t : State) (d : Bool), i.mnemonic ∉ [.php, .brk, .cld, .sed, .plp, .rti] → exec i s = .next t →
    exec i { s with regs := { s.regs with d := d } } = .next { t with regs := { t.regs with d := d } }

/-- R223, derived there from R220. -/
def Obligations.SbcIsAdcOfTheComplement : Prop :=
  ∀ (m : Byte) (r : RegisterFile), applySbc m r = applyAdc (~~~m) r

/-- R220 and R237. -/
def Obligations.AdditionOverflowIsSignedOverflow : Prop :=
  ∀ (a m : Byte) (cin : Bool),
    (addC a m cin).1 = BitVec.ofNat 8 (a.toNat + m.toNat + cin.toNat) ∧
    ((addC a m cin).2.1 = true ↔ 255 < a.toNat + m.toNat + cin.toNat) ∧
    ((addC a m cin).2.2 = true ↔ a.toInt + m.toInt + cin.toNat < -128 ∨ 127 < a.toInt + m.toInt + cin.toNat)

/-- R77, R348. -/
def Obligations.StoreIsSeenByTheNextFetch : Prop :=
  ∀ (s t : State) (a : Addr) (k : Nat), s.bus.answers = [] → exec (.staAbs a) s = .next t →
    (s.regs.pc + 3#16 + BitVec.ofNat 16 k = a → instrByte k t = s.regs.a) ∧
    (s.regs.pc + 3#16 + BitVec.ofNat 16 k ≠ a → instrByte k t = s.readMem (s.regs.pc + 3#16 + BitVec.ofNat 16 k))
end

