-- ==== Sys2Proof/Laws/Bits.lean ====
section
/-! SUPPORT. The bit-field and byte-order helpers: their values, and that `w16`, `hi` and `lo` undo each other. -/

namespace Sys2Proof.Machine

open Sys2Proof

theorem w16_toNat (h l : Byte) : (w16 h l).toNat = h.toNat * 256 + l.toNat := by
  simp only [w16, BitVec.toNat_append]
  rw [← Nat.shiftLeft_add_eq_or_of_lt l.isLt, Nat.shiftLeft_eq]

theorem hi_toNat (a : Addr) : (hi a).toNat = a.toNat / 256 := by
  have := a.isLt
  simp only [hi, BitVec.extractLsb'_toNat, Nat.shiftRight_eq_div_pow]
  omega

theorem lo_toNat (a : Addr) : (lo a).toNat = a.toNat % 256 := by
  simp [lo, BitVec.extractLsb'_toNat]

@[simp] theorem hi_w16 (h l : Byte) : hi (w16 h l) = h := by
  apply BitVec.eq_of_toNat_eq
  have := l.isLt
  rw [hi_toNat, w16_toNat]
  omega

@[simp] theorem lo_w16 (h l : Byte) : lo (w16 h l) = l := by
  apply BitVec.eq_of_toNat_eq
  have := l.isLt
  rw [lo_toNat, w16_toNat]
  omega

@[simp] theorem w16_hi_lo (a : Addr) : w16 (hi a) (lo a) = a := by
  apply BitVec.eq_of_toNat_eq
  rw [w16_toNat, hi_toNat, lo_toNat]
  omega

@[simp] theorem w16_inj (h l h' l' : Byte) : w16 h l = w16 h' l' ↔ h = h' ∧ l = l' := by
  constructor
  · intro e
    have h1 := congrArg hi e
    have h2 := congrArg lo e
    simpa using And.intro h1 h2
  · rintro ⟨rfl, rfl⟩
    rfl

@[simp] theorem lo_zext16 (b : Byte) : lo (zext16 b) = b := by
  apply BitVec.eq_of_toNat_eq
  have := b.isLt
  simp only [lo_toNat, zext16, BitVec.toNat_setWidth]
  omega

/-- Successive stack addresses differ (SP wraps mod 256). -/
theorem stack_ne_one (sp : Byte) : sp - 1#8 ≠ sp := by
  intro h
  have := congrArg BitVec.toNat h
  have := sp.isLt
  simp only [BitVec.toNat_sub, BitVec.toNat_ofNat] at *
  omega

theorem stack_ne_two (sp : Byte) : sp - 1#8 - 1#8 ≠ sp := by
  intro h
  have := congrArg BitVec.toNat h
  have := sp.isLt
  simp only [BitVec.toNat_sub, BitVec.toNat_ofNat] at *
  omega

@[simp] theorem sp_sub_one_one (sp : Byte) : sp - 1#8 - 1#8 = sp - 2#8 := by
  apply BitVec.eq_of_toNat_eq
  have := sp.isLt
  simp only [BitVec.toNat_sub, BitVec.toNat_ofNat]
  omega

@[simp] theorem sp_sub_two_one (sp : Byte) : sp - 2#8 - 1#8 = sp - 3#8 := by
  apply BitVec.eq_of_toNat_eq
  have := sp.isLt
  simp only [BitVec.toNat_sub, BitVec.toNat_ofNat]
  omega

@[simp] theorem sp_add_one_one (sp : Byte) : sp + 1#8 + 1#8 = sp + 2#8 := by
  rw [BitVec.add_assoc]; rfl

@[simp] theorem sp_add_two_one (sp : Byte) : sp + 2#8 + 1#8 = sp + 3#8 := by
  rw [BitVec.add_assoc]; rfl

@[simp] theorem pc_add_three_sub_one (pc : Addr) : pc + 3#16 - 1#16 = pc + 2#16 := by
  apply BitVec.eq_of_toNat_eq
  have := pc.isLt
  simp only [BitVec.toNat_sub, BitVec.toNat_add, BitVec.toNat_ofNat]
  omega

/-- The sign extension of R11 is the two's-complement one (R98). -/
theorem sext16_eq (b : Byte) : sext16 b = b.signExtend 16 := by
  revert b
  decide

end Sys2Proof.Machine
end

