-- ==== Sys2Proof/Laws/State.lean ====
section
/-! SUPPORT. One lemma per field per update of State, each true by rfl, so that no proof unfolds a record update. -/

namespace Sys2Proof.Machine

open Sys2Proof

/-! ### mapRegs -/

@[simp] theorem mapRegs_regs (f : RegisterFile → RegisterFile) (s : State) : (mapRegs f s).regs = f s.regs := rfl
@[simp] theorem mapRegs_seq (f : RegisterFile → RegisterFile) (s : State) : (mapRegs f s).seq = s.seq := rfl
@[simp] theorem mapRegs_latches (f : RegisterFile → RegisterFile) (s : State) : (mapRegs f s).latches = s.latches := rfl
@[simp] theorem mapRegs_irqIn (f : RegisterFile → RegisterFile) (s : State) : (mapRegs f s).irqIn = s.irqIn := rfl
@[simp] theorem mapRegs_stallCycles (f : RegisterFile → RegisterFile) (s : State) : (mapRegs f s).stallCycles = s.stallCycles := rfl
@[simp] theorem mapRegs_halted (f : RegisterFile → RegisterFile) (s : State) : (mapRegs f s).halted = s.halted := rfl
@[simp] theorem mapRegs_mem (f : RegisterFile → RegisterFile) (s : State) : (mapRegs f s).mem = s.mem := rfl
@[simp] theorem mapRegs_bus (f : RegisterFile → RegisterFile) (s : State) : (mapRegs f s).bus = s.bus := rfl
@[simp] theorem mapRegs_config (f : RegisterFile → RegisterFile) (s : State) : (mapRegs f s).config = s.config := rfl

/-! ### setPc -/

@[simp] theorem setPc_regs (a : Addr) (s : State) : (setPc a s).regs = { s.regs with pc := a } := rfl
@[simp] theorem setPc_seq (a : Addr) (s : State) : (setPc a s).seq = s.seq := rfl
@[simp] theorem setPc_latches (a : Addr) (s : State) : (setPc a s).latches = s.latches := rfl
@[simp] theorem setPc_irqIn (a : Addr) (s : State) : (setPc a s).irqIn = s.irqIn := rfl
@[simp] theorem setPc_stallCycles (a : Addr) (s : State) : (setPc a s).stallCycles = s.stallCycles := rfl
@[simp] theorem setPc_halted (a : Addr) (s : State) : (setPc a s).halted = s.halted := rfl
@[simp] theorem setPc_mem (a : Addr) (s : State) : (setPc a s).mem = s.mem := rfl
@[simp] theorem setPc_bus (a : Addr) (s : State) : (setPc a s).bus = s.bus := rfl
@[simp] theorem setPc_config (a : Addr) (s : State) : (setPc a s).config = s.config := rfl

/-! ### setSp -/

@[simp] theorem setSp_regs (v : Byte) (s : State) : (setSp v s).regs = { s.regs with sp := v } := rfl
@[simp] theorem setSp_seq (v : Byte) (s : State) : (setSp v s).seq = s.seq := rfl
@[simp] theorem setSp_latches (v : Byte) (s : State) : (setSp v s).latches = s.latches := rfl
@[simp] theorem setSp_irqIn (v : Byte) (s : State) : (setSp v s).irqIn = s.irqIn := rfl
@[simp] theorem setSp_stallCycles (v : Byte) (s : State) : (setSp v s).stallCycles = s.stallCycles := rfl
@[simp] theorem setSp_halted (v : Byte) (s : State) : (setSp v s).halted = s.halted := rfl
@[simp] theorem setSp_mem (v : Byte) (s : State) : (setSp v s).mem = s.mem := rfl
@[simp] theorem setSp_bus (v : Byte) (s : State) : (setSp v s).bus = s.bus := rfl
@[simp] theorem setSp_config (v : Byte) (s : State) : (setSp v s).config = s.config := rfl

/-! ### setEa -/

@[simp] theorem setEa_regs (a : Addr) (s : State) : (setEa a s).regs = s.regs := rfl
@[simp] theorem setEa_seq (a : Addr) (s : State) : (setEa a s).seq = { s.seq with effectiveAddress := some a } := rfl
@[simp] theorem setEa_latches (a : Addr) (s : State) : (setEa a s).latches = s.latches := rfl
@[simp] theorem setEa_irqIn (a : Addr) (s : State) : (setEa a s).irqIn = s.irqIn := rfl
@[simp] theorem setEa_stallCycles (a : Addr) (s : State) : (setEa a s).stallCycles = s.stallCycles := rfl
@[simp] theorem setEa_halted (a : Addr) (s : State) : (setEa a s).halted = s.halted := rfl
@[simp] theorem setEa_mem (a : Addr) (s : State) : (setEa a s).mem = s.mem := rfl
@[simp] theorem setEa_bus (a : Addr) (s : State) : (setEa a s).bus = s.bus := rfl
@[simp] theorem setEa_config (a : Addr) (s : State) : (setEa a s).config = s.config := rfl

/-! ### setOperand -/

@[simp] theorem setOperand_regs (v : Byte) (s : State) : (setOperand v s).regs = s.regs := rfl
@[simp] theorem setOperand_seq (v : Byte) (s : State) : (setOperand v s).seq = { s.seq with operand := some v } := rfl
@[simp] theorem setOperand_latches (v : Byte) (s : State) : (setOperand v s).latches = s.latches := rfl
@[simp] theorem setOperand_irqIn (v : Byte) (s : State) : (setOperand v s).irqIn = s.irqIn := rfl
@[simp] theorem setOperand_stallCycles (v : Byte) (s : State) : (setOperand v s).stallCycles = s.stallCycles := rfl
@[simp] theorem setOperand_halted (v : Byte) (s : State) : (setOperand v s).halted = s.halted := rfl
@[simp] theorem setOperand_mem (v : Byte) (s : State) : (setOperand v s).mem = s.mem := rfl
@[simp] theorem setOperand_bus (v : Byte) (s : State) : (setOperand v s).bus = s.bus := rfl
@[simp] theorem setOperand_config (v : Byte) (s : State) : (setOperand v s).config = s.config := rfl

/-! ### setTemp -/

@[simp] theorem setTemp_regs (v : Byte) (s : State) : (setTemp v s).regs = s.regs := rfl
@[simp] theorem setTemp_seq (v : Byte) (s : State) : (setTemp v s).seq = { s.seq with tempLatch := some v } := rfl
@[simp] theorem setTemp_latches (v : Byte) (s : State) : (setTemp v s).latches = s.latches := rfl
@[simp] theorem setTemp_irqIn (v : Byte) (s : State) : (setTemp v s).irqIn = s.irqIn := rfl
@[simp] theorem setTemp_stallCycles (v : Byte) (s : State) : (setTemp v s).stallCycles = s.stallCycles := rfl
@[simp] theorem setTemp_halted (v : Byte) (s : State) : (setTemp v s).halted = s.halted := rfl
@[simp] theorem setTemp_mem (v : Byte) (s : State) : (setTemp v s).mem = s.mem := rfl
@[simp] theorem setTemp_bus (v : Byte) (s : State) : (setTemp v s).bus = s.bus := rfl
@[simp] theorem setTemp_config (v : Byte) (s : State) : (setTemp v s).config = s.config := rfl

/-! ### setCrossed -/

@[simp] theorem setCrossed_regs (b : Bool) (s : State) : (setCrossed b s).regs = s.regs := rfl
@[simp] theorem setCrossed_seq (b : Bool) (s : State) : (setCrossed b s).seq = { s.seq with crossed := b } := rfl
@[simp] theorem setCrossed_latches (b : Bool) (s : State) : (setCrossed b s).latches = s.latches := rfl
@[simp] theorem setCrossed_irqIn (b : Bool) (s : State) : (setCrossed b s).irqIn = s.irqIn := rfl
@[simp] theorem setCrossed_stallCycles (b : Bool) (s : State) : (setCrossed b s).stallCycles = s.stallCycles := rfl
@[simp] theorem setCrossed_halted (b : Bool) (s : State) : (setCrossed b s).halted = s.halted := rfl
@[simp] theorem setCrossed_mem (b : Bool) (s : State) : (setCrossed b s).mem = s.mem := rfl
@[simp] theorem setCrossed_bus (b : Bool) (s : State) : (setCrossed b s).bus = s.bus := rfl
@[simp] theorem setCrossed_config (b : Bool) (s : State) : (setCrossed b s).config = s.config := rfl

/-! ### endInstr -/

@[simp] theorem endInstr_regs (s : State) : (endInstr s).regs = s.regs := rfl
@[simp] theorem endInstr_seq (s : State) : (endInstr s).seq = { s.seq with phase := .idle } := rfl
@[simp] theorem endInstr_latches (s : State) : (endInstr s).latches = s.latches := rfl
@[simp] theorem endInstr_irqIn (s : State) : (endInstr s).irqIn = s.irqIn := rfl
@[simp] theorem endInstr_stallCycles (s : State) : (endInstr s).stallCycles = s.stallCycles := rfl
@[simp] theorem endInstr_halted (s : State) : (endInstr s).halted = s.halted := rfl
@[simp] theorem endInstr_mem (s : State) : (endInstr s).mem = s.mem := rfl
@[simp] theorem endInstr_bus (s : State) : (endInstr s).bus = s.bus := rfl
@[simp] theorem endInstr_config (s : State) : (endInstr s).config = s.config := rfl

/-! ### raise -/

@[simp] theorem raise_regs (f : Fault) (s : State) : (raise f s).regs = s.regs := rfl
@[simp] theorem raise_seq (f : Fault) (s : State) : (raise f s).seq = s.seq := rfl
@[simp] theorem raise_latches (f : Fault) (s : State) : (raise f s).latches = s.latches := rfl
@[simp] theorem raise_irqIn (f : Fault) (s : State) : (raise f s).irqIn = s.irqIn := rfl
@[simp] theorem raise_stallCycles (f : Fault) (s : State) : (raise f s).stallCycles = s.stallCycles := rfl
@[simp] theorem raise_halted (f : Fault) (s : State) : (raise f s).halted = some f := rfl
@[simp] theorem raise_mem (f : Fault) (s : State) : (raise f s).mem = s.mem := rfl
@[simp] theorem raise_bus (f : Fault) (s : State) : (raise f s).bus = s.bus := rfl
@[simp] theorem raise_config (f : Fault) (s : State) : (raise f s).config = s.config := rfl

/-! ### poll -/

@[simp] theorem poll_regs (s : State) : (poll s).regs = s.regs := rfl
@[simp] theorem poll_seq (s : State) : (poll s).seq = s.seq := rfl
@[simp] theorem poll_latches (s : State) : (poll s).latches = { s.latches with irqLineAsserted := s.irqIn } := rfl
@[simp] theorem poll_irqIn (s : State) : (poll s).irqIn = s.irqIn := rfl
@[simp] theorem poll_stallCycles (s : State) : (poll s).stallCycles = s.stallCycles := rfl
@[simp] theorem poll_halted (s : State) : (poll s).halted = s.halted := rfl
@[simp] theorem poll_mem (s : State) : (poll s).mem = s.mem := rfl
@[simp] theorem poll_bus (s : State) : (poll s).bus = s.bus := rfl
@[simp] theorem poll_config (s : State) : (poll s).config = s.config := rfl

/-! ### beginInterrupt -/

@[simp] theorem beginInterrupt_regs (p : Phase) (s : State) : (beginInterrupt p s).regs = s.regs := rfl
@[simp] theorem beginInterrupt_seq (p : Phase) (s : State) : (beginInterrupt p s).seq = { s.seq with phase := p, baseCycles := 7, t := 0, crossed := false } := rfl
@[simp] theorem beginInterrupt_latches (p : Phase) (s : State) : (beginInterrupt p s).latches = s.latches := rfl
@[simp] theorem beginInterrupt_irqIn (p : Phase) (s : State) : (beginInterrupt p s).irqIn = s.irqIn := rfl
@[simp] theorem beginInterrupt_stallCycles (p : Phase) (s : State) : (beginInterrupt p s).stallCycles = s.stallCycles := rfl
@[simp] theorem beginInterrupt_halted (p : Phase) (s : State) : (beginInterrupt p s).halted = s.halted := rfl
@[simp] theorem beginInterrupt_mem (p : Phase) (s : State) : (beginInterrupt p s).mem = s.mem := rfl
@[simp] theorem beginInterrupt_bus (p : Phase) (s : State) : (beginInterrupt p s).bus = s.bus := rfl
@[simp] theorem beginInterrupt_config (p : Phase) (s : State) : (beginInterrupt p s).config = s.config := rfl

/-! ### stalledClock -/

@[simp] theorem stalledClock_regs (s : State) : (stalledClock s).regs = s.regs := rfl
@[simp] theorem stalledClock_seq (s : State) : (stalledClock s).seq = s.seq := rfl
@[simp] theorem stalledClock_latches (s : State) : (stalledClock s).latches = s.latches := rfl
@[simp] theorem stalledClock_irqIn (s : State) : (stalledClock s).irqIn = s.irqIn := rfl
@[simp] theorem stalledClock_stallCycles (s : State) : (stalledClock s).stallCycles = s.stallCycles - 1 := rfl
@[simp] theorem stalledClock_halted (s : State) : (stalledClock s).halted = s.halted := rfl
@[simp] theorem stalledClock_mem (s : State) : (stalledClock s).mem = s.mem := rfl
@[simp] theorem stalledClock_bus (s : State) : (stalledClock s).bus = { s.bus with now := s.bus.now + 1 } := rfl
@[simp] theorem stalledClock_config (s : State) : (stalledClock s).config = s.config := rfl

end Sys2Proof.Machine
end

