-- ==== Sys2Proof/Laws/Memory.lean ====
section
/-! SUPPORT. Memory: a read after a write, and that every write keeps the canonical form. -/

namespace Sys2Proof.Machine

open Sys2Proof

theorem Memory.read_erase (m : List Host.Cell) (a b : Nat) :
    Memory.read (Memory.erase m a) b = if b = a then 0#8 else Memory.read m b := by
  induction m with
  | nil => simp [Memory.erase, Memory.read]
  | cons c m ih =>
    obtain ⟨k, v⟩ := c
    by_cases h : a = k
    · subst h
      simp only [Memory.erase, if_true, ih, Memory.read]
      split <;> rfl
    · simp only [Memory.erase, if_neg h, Memory.read, ih]
      by_cases hb : b = k
      · subst hb
        simp [Ne.symm h]
      · simp [hb]

/-- An insertion into a list without the address is read at the address and nowhere else. -/
theorem Memory.read_insert {m : List Host.Cell} {a : Nat} (v : Byte) (h : ∀ c ∈ m, c.1 ≠ a) (b : Nat) :
    Memory.read (Memory.insert m a v) b = if b = a then v else Memory.read m b := by
  induction m with
  | nil => simp [Memory.insert, Memory.read]
  | cons c m ih =>
    obtain ⟨k, w⟩ := c
    have hk : k ≠ a := h (k, w) (by simp)
    have ih := ih fun c hc => h c (by simp [hc])
    by_cases hlt : a < k
    · simp [Memory.insert, hlt, Memory.read]
    · simp only [Memory.insert, if_neg hlt, Memory.read, ih]
      by_cases hb : b = k
      · subst hb
        simp [hk]
      · simp [hb]

theorem Memory.erase_ne (m : List Host.Cell) (a : Nat) : ∀ c ∈ Memory.erase m a, c.1 ≠ a := by
  induction m with
  | nil => simp [Memory.erase]
  | cons c m ih =>
    obtain ⟨k, v⟩ := c
    by_cases h : a = k
    · simp only [Memory.erase, if_pos h]
      exact ih
    · simp only [Memory.erase, if_neg h, List.mem_cons]
      rintro c (rfl | hc)
      · exact Ne.symm h
      · exact ih c hc

/-- A read after a write: the written byte at its address, the old byte everywhere else. -/
theorem Memory.read_write (m : List Host.Cell) (a b : Nat) (v : Byte) :
    Memory.read (Memory.write m a v) b = if b = a then v else Memory.read m b := by
  unfold Memory.write
  split
  · next h => simp [Memory.read_erase, h]
  · rw [Memory.read_insert v (Memory.erase_ne m a), Memory.read_erase]
    split <;> rfl

theorem Memory.read_write_ne (m : List Host.Cell) {a b : Nat} (h : b ≠ a) (v : Byte) :
    Memory.read (Memory.write m a v) b = Memory.read m b := by
  simp [Memory.read_write, h]

/-- `read_write` at bus addresses. -/
theorem Memory.read_write_addr (m : List Host.Cell) (a b : Addr) (v : Byte) :
    Memory.read (Memory.write m a.toNat v) b.toNat = if b = a then v else Memory.read m b.toNat := by
  rw [Memory.read_write]
  by_cases h : b = a
  · simp [h]
  · have h' : b.toNat ≠ a.toNat := fun e => h (BitVec.eq_of_toNat_eq e)
    simp [h, h']

theorem Memory.erase_of_ne {m : List Host.Cell} {a : Nat} (h : ∀ c ∈ m, c.1 ≠ a) : Memory.erase m a = m := by
  induction m with
  | nil => rfl
  | cons c m ih =>
    obtain ⟨k, v⟩ := c
    have hk : a ≠ k := Ne.symm (h (k, v) (by simp))
    simp [Memory.erase, hk, ih fun c hc => h c (by simp [hc])]

theorem Memory.erase_insert {m : List Host.Cell} {a : Nat} (v : Byte) (h : ∀ c ∈ m, c.1 ≠ a) :
    Memory.erase (Memory.insert m a v) a = m := by
  induction m with
  | nil => simp [Memory.insert, Memory.erase]
  | cons c m ih =>
    obtain ⟨k, w⟩ := c
    have hk : a ≠ k := Ne.symm (h (k, w) (by simp))
    have hm : ∀ c ∈ m, c.1 ≠ a := fun c hc => h c (by simp [hc])
    by_cases hlt : a < k
    · simp [Memory.insert, hlt, Memory.erase, hk, Memory.erase_of_ne hm]
    · simp [Memory.insert, hlt, Memory.erase, hk, ih hm]

/-- The later of two writes to an address wins. -/
theorem Memory.write_write (m : List Host.Cell) (a : Nat) (v w : Byte) :
    Memory.write (Memory.write m a v) a w = Memory.write m a w := by
  have h : Memory.erase (Memory.write m a v) a = Memory.erase m a := by
    unfold Memory.write
    split
    · exact Memory.erase_of_ne (Memory.erase_ne m a)
    · exact Memory.erase_insert v (Memory.erase_ne m a)
  show (if w = 0#8 then Memory.erase (Memory.write m a v) a
      else Memory.insert (Memory.erase (Memory.write m a v) a) a w) = Memory.write m a w
  rw [h]
  rfl

/-! ## The canonical form -/

theorem Memory.wfFrom_mono {m : List Host.Cell} {i j : Nat} (hij : i ≤ j) (h : Memory.wfFrom j m = true) :
    Memory.wfFrom i m = true := by
  cases m with
  | nil => rfl
  | cons c m =>
    obtain ⟨k, v⟩ := c
    simp only [Memory.wfFrom, Bool.and_eq_true, decide_eq_true_eq] at h ⊢
    exact ⟨⟨⟨le_trans hij h.1.1.1, h.1.1.2⟩, h.1.2⟩, h.2⟩

theorem Memory.wfFrom_erase {m : List Host.Cell} {i : Nat} (h : Memory.wfFrom i m = true) (a : Nat) :
    Memory.wfFrom i (Memory.erase m a) = true := by
  induction m generalizing i with
  | nil => rfl
  | cons c m ih =>
    obtain ⟨k, v⟩ := c
    simp only [Memory.wfFrom, Bool.and_eq_true, decide_eq_true_eq] at h
    by_cases ha : a = k
    · simp only [Memory.erase, if_pos ha]
      exact ih (Memory.wfFrom_mono (le_trans h.1.1.1 (Nat.le_succ k)) h.2)
    · simp only [Memory.erase, if_neg ha, Memory.wfFrom, Bool.and_eq_true, decide_eq_true_eq]
      exact ⟨h.1, ih h.2⟩

theorem Memory.wfFrom_insert {m : List Host.Cell} {i a : Nat} {v : Byte} (h : Memory.wfFrom i m = true)
    (hne : ∀ c ∈ m, c.1 ≠ a) (hi : i ≤ a) (ha : a < 65536) (hv : v ≠ 0#8) :
    Memory.wfFrom i (Memory.insert m a v) = true := by
  induction m generalizing i with
  | nil => simp [Memory.insert, Memory.wfFrom, hi, ha, hv]
  | cons c m ih =>
    obtain ⟨k, w⟩ := c
    simp only [Memory.wfFrom, Bool.and_eq_true, decide_eq_true_eq] at h
    have hk : k ≠ a := hne (k, w) (by simp)
    by_cases hlt : a < k
    · simp only [Memory.insert, if_pos hlt, Memory.wfFrom, Bool.and_eq_true, decide_eq_true_eq]
      exact ⟨⟨⟨hi, ha⟩, by simpa using hv⟩, ⟨⟨⟨hlt, h.1.1.2⟩, h.1.2⟩, h.2⟩⟩
    · simp only [Memory.insert, if_neg hlt, Memory.wfFrom, Bool.and_eq_true, decide_eq_true_eq]
      exact ⟨h.1, ih h.2 (fun c hc => hne c (by simp [hc])) (by omega)⟩

/-- A write at an address of the bus keeps memory canonical. -/
theorem Memory.wf_write {m : List Host.Cell} (h : Memory.wf m = true) {a : Nat} (ha : a < 65536) (v : Byte) :
    Memory.wf (Memory.write m a v) = true := by
  unfold Memory.wf Memory.write
  split
  · exact Memory.wfFrom_erase h a
  · next hv => exact Memory.wfFrom_insert (Memory.wfFrom_erase h a) (Memory.erase_ne m a) (Nat.zero_le a) ha hv

/-- Memory is canonical at reset. -/
theorem reset_mem_wf : Memory.wf State.reset.mem = true := rfl

end Sys2Proof.Machine
end

