-- ==== Sys2Proof/Laws/Ops.lean ====
section
/-! SUPPORT. The bus operations: what each does to every field, what the Bus answers after each, and how each keeps memory canonical. -/

namespace Sys2Proof.Machine

open Sys2Proof

/-! ### record -/

@[simp] theorem record_regs (k : AccessKind) (a : Addr) (v : Byte) (s : State) : (record k a v s).regs = s.regs := rfl
@[simp] theorem record_seq (k : AccessKind) (a : Addr) (v : Byte) (s : State) : (record k a v s).seq = s.seq := rfl
@[simp] theorem record_latches (k : AccessKind) (a : Addr) (v : Byte) (s : State) : (record k a v s).latches = s.latches := rfl
@[simp] theorem record_irqIn (k : AccessKind) (a : Addr) (v : Byte) (s : State) : (record k a v s).irqIn = s.irqIn := rfl
@[simp] theorem record_stallCycles (k : AccessKind) (a : Addr) (v : Byte) (s : State) : (record k a v s).stallCycles = s.stallCycles := rfl
@[simp] theorem record_halted (k : AccessKind) (a : Addr) (v : Byte) (s : State) : (record k a v s).halted = s.halted := rfl
@[simp] theorem record_mem (k : AccessKind) (a : Addr) (v : Byte) (s : State) : (record k a v s).mem = s.mem := rfl
@[simp] theorem record_bus (k : AccessKind) (a : Addr) (v : Byte) (s : State) : (record k a v s).bus = { s.bus with trace := ⟨s.bus.now + 1, k, a, v⟩ :: s.bus.trace } := rfl
@[simp] theorem record_config (k : AccessKind) (a : Addr) (v : Byte) (s : State) : (record k a v s).config = s.config := rfl

/-! ### tick -/

@[simp] theorem tick_regs (s : State) : (tick s).regs = s.regs := rfl
@[simp] theorem tick_seq (s : State) : (tick s).seq = { s.seq with t := s.seq.t + 1 } := rfl
@[simp] theorem tick_latches (s : State) : (tick s).latches = { s.latches with irqLineAsserted := s.irqIn } := rfl
@[simp] theorem tick_irqIn (s : State) : (tick s).irqIn = s.irqIn := rfl
@[simp] theorem tick_stallCycles (s : State) : (tick s).stallCycles = s.stallCycles := rfl
@[simp] theorem tick_halted (s : State) : (tick s).halted = s.halted := rfl
@[simp] theorem tick_mem (s : State) : (tick s).mem = s.mem := rfl
@[simp] theorem tick_bus (s : State) : (tick s).bus = { s.bus with now := s.bus.now + 1 } := rfl
@[simp] theorem tick_config (s : State) : (tick s).config = s.config := rfl

/-! ### readCycle -/

@[simp] theorem readCycle_regs (a : Addr) (s : State) : (readCycle a s).regs = s.regs := rfl
@[simp] theorem readCycle_seq (a : Addr) (s : State) : (readCycle a s).seq = { s.seq with t := s.seq.t + 1 } := rfl
@[simp] theorem readCycle_latches (a : Addr) (s : State) : (readCycle a s).latches = { s.latches with irqLineAsserted := s.irqIn } := rfl
@[simp] theorem readCycle_irqIn (a : Addr) (s : State) : (readCycle a s).irqIn = s.irqIn := rfl
@[simp] theorem readCycle_stallCycles (a : Addr) (s : State) : (readCycle a s).stallCycles = s.stallCycles := rfl
@[simp] theorem readCycle_halted (a : Addr) (s : State) : (readCycle a s).halted = s.halted := rfl
@[simp] theorem readCycle_mem (a : Addr) (s : State) : (readCycle a s).mem = s.mem := rfl
@[simp] theorem readCycle_bus (a : Addr) (s : State) : (readCycle a s).bus = { s.bus with now := s.bus.now + 1, trace := ⟨s.bus.now + 1, .read, a, answer a s⟩ :: s.bus.trace } := rfl
@[simp] theorem readCycle_config (a : Addr) (s : State) : (readCycle a s).config = s.config := rfl

/-! ### writeCycle -/

@[simp] theorem writeCycle_regs (a : Addr) (v : Byte) (s : State) : (writeCycle a v s).regs = s.regs := rfl
@[simp] theorem writeCycle_seq (a : Addr) (v : Byte) (s : State) : (writeCycle a v s).seq = { s.seq with t := s.seq.t + 1 } := rfl
@[simp] theorem writeCycle_latches (a : Addr) (v : Byte) (s : State) : (writeCycle a v s).latches = { s.latches with irqLineAsserted := s.irqIn } := rfl
@[simp] theorem writeCycle_irqIn (a : Addr) (v : Byte) (s : State) : (writeCycle a v s).irqIn = s.irqIn := rfl
@[simp] theorem writeCycle_stallCycles (a : Addr) (v : Byte) (s : State) : (writeCycle a v s).stallCycles = s.stallCycles := rfl
@[simp] theorem writeCycle_halted (a : Addr) (v : Byte) (s : State) : (writeCycle a v s).halted = s.halted := rfl
@[simp] theorem writeCycle_mem (a : Addr) (v : Byte) (s : State) : (writeCycle a v s).mem = Memory.write s.mem a.toNat v := rfl
@[simp] theorem writeCycle_bus (a : Addr) (v : Byte) (s : State) : (writeCycle a v s).bus = { s.bus with now := s.bus.now + 1, trace := ⟨s.bus.now + 1, .write, a, v⟩ :: s.bus.trace } := rfl
@[simp] theorem writeCycle_config (a : Addr) (v : Byte) (s : State) : (writeCycle a v s).config = s.config := rfl

/-! ### readAtPc -/

@[simp] theorem readAtPc_regs (v : Byte) (s : State) : (readAtPc v s).regs = s.regs := rfl
@[simp] theorem readAtPc_seq (v : Byte) (s : State) : (readAtPc v s).seq = { s.seq with t := s.seq.t + 1 } := rfl
@[simp] theorem readAtPc_latches (v : Byte) (s : State) : (readAtPc v s).latches = { s.latches with irqLineAsserted := s.irqIn } := rfl
@[simp] theorem readAtPc_irqIn (v : Byte) (s : State) : (readAtPc v s).irqIn = s.irqIn := rfl
@[simp] theorem readAtPc_stallCycles (v : Byte) (s : State) : (readAtPc v s).stallCycles = s.stallCycles := rfl
@[simp] theorem readAtPc_halted (v : Byte) (s : State) : (readAtPc v s).halted = s.halted := rfl
@[simp] theorem readAtPc_mem (v : Byte) (s : State) : (readAtPc v s).mem = s.mem := rfl
@[simp] theorem readAtPc_bus (v : Byte) (s : State) : (readAtPc v s).bus = { s.bus with now := s.bus.now + 1, trace := ⟨s.bus.now + 1, .read, s.regs.pc, v⟩ :: s.bus.trace } := rfl
@[simp] theorem readAtPc_config (v : Byte) (s : State) : (readAtPc v s).config = s.config := rfl

/-! ### fetchCycle -/

@[simp] theorem fetchCycle_regs (v : Byte) (s : State) : (fetchCycle v s).regs = { s.regs with pc := s.regs.pc + 1#16 } := rfl
@[simp] theorem fetchCycle_seq (v : Byte) (s : State) : (fetchCycle v s).seq = { s.seq with t := s.seq.t + 1 } := rfl
@[simp] theorem fetchCycle_latches (v : Byte) (s : State) : (fetchCycle v s).latches = { s.latches with irqLineAsserted := s.irqIn } := rfl
@[simp] theorem fetchCycle_irqIn (v : Byte) (s : State) : (fetchCycle v s).irqIn = s.irqIn := rfl
@[simp] theorem fetchCycle_stallCycles (v : Byte) (s : State) : (fetchCycle v s).stallCycles = s.stallCycles := rfl
@[simp] theorem fetchCycle_halted (v : Byte) (s : State) : (fetchCycle v s).halted = s.halted := rfl
@[simp] theorem fetchCycle_mem (v : Byte) (s : State) : (fetchCycle v s).mem = s.mem := rfl
@[simp] theorem fetchCycle_bus (v : Byte) (s : State) : (fetchCycle v s).bus = { s.bus with now := s.bus.now + 1, trace := ⟨s.bus.now + 1, .read, s.regs.pc, v⟩ :: s.bus.trace } := rfl
@[simp] theorem fetchCycle_config (v : Byte) (s : State) : (fetchCycle v s).config = s.config := rfl

/-! ### push -/

@[simp] theorem push_regs (v : Byte) (s : State) : (push v s).regs = { s.regs with sp := s.regs.sp - 1#8 } := rfl
@[simp] theorem push_seq (v : Byte) (s : State) : (push v s).seq = { s.seq with t := s.seq.t + 1 } := rfl
@[simp] theorem push_latches (v : Byte) (s : State) : (push v s).latches = { s.latches with irqLineAsserted := s.irqIn } := rfl
@[simp] theorem push_irqIn (v : Byte) (s : State) : (push v s).irqIn = s.irqIn := rfl
@[simp] theorem push_stallCycles (v : Byte) (s : State) : (push v s).stallCycles = s.stallCycles := rfl
@[simp] theorem push_halted (v : Byte) (s : State) : (push v s).halted = s.halted := rfl
@[simp] theorem push_mem (v : Byte) (s : State) : (push v s).mem = Memory.write s.mem (stackAddr s).toNat v := rfl
@[simp] theorem push_bus (v : Byte) (s : State) : (push v s).bus = { s.bus with now := s.bus.now + 1, trace := ⟨s.bus.now + 1, .write, stackAddr s, v⟩ :: s.bus.trace } := rfl
@[simp] theorem push_config (v : Byte) (s : State) : (push v s).config = s.config := rfl

/-! ### decodeClock -/

@[simp] theorem decodeClock_regs (op : Byte) (e : Entry) (s : State) : (decodeClock op e s).regs = { s.regs with pc := s.regs.pc + 1#16 } := rfl
@[simp] theorem decodeClock_seq (op : Byte) (e : Entry) (s : State) : (decodeClock op e s).seq = ⟨.exec, 1, e.mnemonic, e.mode, none, none, none, false, e.cycles⟩ := rfl
@[simp] theorem decodeClock_latches (op : Byte) (e : Entry) (s : State) : (decodeClock op e s).latches = { s.latches with irqLineAsserted := s.irqIn } := rfl
@[simp] theorem decodeClock_irqIn (op : Byte) (e : Entry) (s : State) : (decodeClock op e s).irqIn = s.irqIn := rfl
@[simp] theorem decodeClock_stallCycles (op : Byte) (e : Entry) (s : State) : (decodeClock op e s).stallCycles = s.stallCycles := rfl
@[simp] theorem decodeClock_halted (op : Byte) (e : Entry) (s : State) : (decodeClock op e s).halted = s.halted := rfl
@[simp] theorem decodeClock_mem (op : Byte) (e : Entry) (s : State) : (decodeClock op e s).mem = s.mem := rfl
@[simp] theorem decodeClock_bus (op : Byte) (e : Entry) (s : State) : (decodeClock op e s).bus = { s.bus with now := s.bus.now + 1, trace := ⟨s.bus.now + 1, .read, s.regs.pc, op⟩ :: s.bus.trace } := rfl
@[simp] theorem decodeClock_config (op : Byte) (e : Entry) (s : State) : (decodeClock op e s).config = s.config := rfl

/-! ### dummyRead and dummyWrite -/

@[simp] theorem dummyRead_regs (a : Addr) (s : State) : (dummyRead a s).regs = s.regs := by
  unfold dummyRead; split <;> rfl
@[simp] theorem dummyRead_seq (a : Addr) (s : State) : (dummyRead a s).seq = { s.seq with t := s.seq.t + 1 } := by
  unfold dummyRead; split <;> rfl
@[simp] theorem dummyRead_latches (a : Addr) (s : State) : (dummyRead a s).latches = { s.latches with irqLineAsserted := s.irqIn } := by
  unfold dummyRead; split <;> rfl
@[simp] theorem dummyRead_irqIn (a : Addr) (s : State) : (dummyRead a s).irqIn = s.irqIn := by
  unfold dummyRead; split <;> rfl
@[simp] theorem dummyRead_stallCycles (a : Addr) (s : State) : (dummyRead a s).stallCycles = s.stallCycles := by
  unfold dummyRead; split <;> rfl
@[simp] theorem dummyRead_halted (a : Addr) (s : State) : (dummyRead a s).halted = s.halted := by
  unfold dummyRead; split <;> rfl
@[simp] theorem dummyRead_mem (a : Addr) (s : State) : (dummyRead a s).mem = s.mem := by
  unfold dummyRead; split <;> rfl
@[simp] theorem dummyRead_config (a : Addr) (s : State) : (dummyRead a s).config = s.config := by
  unfold dummyRead; split <;> rfl
@[simp] theorem dummyRead_bus_now (a : Addr) (s : State) : (dummyRead a s).bus.now = s.bus.now + 1 := by
  unfold dummyRead; split <;> rfl
@[simp] theorem dummyRead_bus_answers (a : Addr) (s : State) : (dummyRead a s).bus.answers = s.bus.answers := by
  unfold dummyRead; split <;> rfl

@[simp] theorem dummyWrite_regs (a : Addr) (v : Byte) (s : State) : (dummyWrite a v s).regs = s.regs := by
  unfold dummyWrite; split <;> rfl
@[simp] theorem dummyWrite_seq (a : Addr) (v : Byte) (s : State) : (dummyWrite a v s).seq = { s.seq with t := s.seq.t + 1 } := by
  unfold dummyWrite; split <;> rfl
@[simp] theorem dummyWrite_latches (a : Addr) (v : Byte) (s : State) : (dummyWrite a v s).latches = { s.latches with irqLineAsserted := s.irqIn } := by
  unfold dummyWrite; split <;> rfl
@[simp] theorem dummyWrite_irqIn (a : Addr) (v : Byte) (s : State) : (dummyWrite a v s).irqIn = s.irqIn := by
  unfold dummyWrite; split <;> rfl
@[simp] theorem dummyWrite_stallCycles (a : Addr) (v : Byte) (s : State) : (dummyWrite a v s).stallCycles = s.stallCycles := by
  unfold dummyWrite; split <;> rfl
@[simp] theorem dummyWrite_halted (a : Addr) (v : Byte) (s : State) : (dummyWrite a v s).halted = s.halted := by
  unfold dummyWrite; split <;> rfl
@[simp] theorem dummyWrite_config (a : Addr) (v : Byte) (s : State) : (dummyWrite a v s).config = s.config := by
  unfold dummyWrite; split <;> rfl
@[simp] theorem dummyWrite_bus_now (a : Addr) (v : Byte) (s : State) :
    (dummyWrite a v s).bus.now = s.bus.now + 1 := by
  unfold dummyWrite; split <;> rfl
@[simp] theorem dummyWrite_bus_answers (a : Addr) (v : Byte) (s : State) :
    (dummyWrite a v s).bus.answers = s.bus.answers := by
  unfold dummyWrite; split <;> rfl

/-! ### What the Bus answers -/

/-- An answer depends on the oracle and on memory alone. -/
theorem answerAt_congr {s t : State} (hm : t.mem = s.mem) (ha : t.bus.answers = s.bus.answers) (k : Nat) (a : Addr) :
    answerAt k a t = answerAt k a s := by
  simp [answerAt, State.readMem, hm, ha]

@[simp] theorem answerAt_tick (j : Nat) (a : Addr) (s : State) :
    answerAt j a (tick s) = answerAt j a s :=
  answerAt_congr (by simp) (by simp) j a
@[simp] theorem answerAt_record (j : Nat) (a : Addr) (k : AccessKind) (b : Addr) (v : Byte) (s : State) :
    answerAt j a (record k b v s) = answerAt j a s :=
  answerAt_congr (by simp) (by simp) j a
@[simp] theorem answerAt_readCycle (j : Nat) (a : Addr) (b : Addr) (s : State) :
    answerAt j a (readCycle b s) = answerAt j a s :=
  answerAt_congr (by simp) (by simp) j a
@[simp] theorem answerAt_dummyRead (j : Nat) (a : Addr) (b : Addr) (s : State) :
    answerAt j a (dummyRead b s) = answerAt j a s :=
  answerAt_congr (by simp) (by simp) j a
@[simp] theorem answerAt_readAtPc (j : Nat) (a : Addr) (v : Byte) (s : State) :
    answerAt j a (readAtPc v s) = answerAt j a s :=
  answerAt_congr (by simp) (by simp) j a
@[simp] theorem answerAt_fetchCycle (j : Nat) (a : Addr) (v : Byte) (s : State) :
    answerAt j a (fetchCycle v s) = answerAt j a s :=
  answerAt_congr (by simp) (by simp) j a
@[simp] theorem answerAt_decodeClock (j : Nat) (a : Addr) (op : Byte) (e : Entry) (s : State) :
    answerAt j a (decodeClock op e s) = answerAt j a s :=
  answerAt_congr (by simp) (by simp) j a
@[simp] theorem answerAt_mapRegs (j : Nat) (a : Addr) (f : RegisterFile → RegisterFile) (s : State) :
    answerAt j a (mapRegs f s) = answerAt j a s :=
  answerAt_congr (by simp) (by simp) j a
@[simp] theorem answerAt_setPc (j : Nat) (a : Addr) (b : Addr) (s : State) :
    answerAt j a (setPc b s) = answerAt j a s :=
  answerAt_congr (by simp) (by simp) j a
@[simp] theorem answerAt_setSp (j : Nat) (a : Addr) (v : Byte) (s : State) :
    answerAt j a (setSp v s) = answerAt j a s :=
  answerAt_congr (by simp) (by simp) j a
@[simp] theorem answerAt_setEa (j : Nat) (a : Addr) (b : Addr) (s : State) :
    answerAt j a (setEa b s) = answerAt j a s :=
  answerAt_congr (by simp) (by simp) j a
@[simp] theorem answerAt_setOperand (j : Nat) (a : Addr) (v : Byte) (s : State) :
    answerAt j a (setOperand v s) = answerAt j a s :=
  answerAt_congr (by simp) (by simp) j a
@[simp] theorem answerAt_setTemp (j : Nat) (a : Addr) (v : Byte) (s : State) :
    answerAt j a (setTemp v s) = answerAt j a s :=
  answerAt_congr (by simp) (by simp) j a
@[simp] theorem answerAt_setCrossed (j : Nat) (a : Addr) (c : Bool) (s : State) :
    answerAt j a (setCrossed c s) = answerAt j a s :=
  answerAt_congr (by simp) (by simp) j a
@[simp] theorem answerAt_endInstr (j : Nat) (a : Addr) (s : State) :
    answerAt j a (endInstr s) = answerAt j a s :=
  answerAt_congr (by simp) (by simp) j a
@[simp] theorem answerAt_poll (j : Nat) (a : Addr) (s : State) :
    answerAt j a (poll s) = answerAt j a s :=
  answerAt_congr (by simp) (by simp) j a
@[simp] theorem answerAt_beginInterrupt (j : Nat) (a : Addr) (p : Phase) (s : State) :
    answerAt j a (beginInterrupt p s) = answerAt j a s :=
  answerAt_congr (by simp) (by simp) j a
@[simp] theorem answerAt_stalledClock (j : Nat) (a : Addr) (s : State) :
    answerAt j a (stalledClock s) = answerAt j a s :=
  answerAt_congr (by simp) (by simp) j a

/-- After a write to another address the Bus answers as before. -/
theorem answerAt_writeCycle_ne (j : Nat) {a b : Addr} (h : a ≠ b) (v : Byte) (s : State) :
    answerAt j a (writeCycle b v s) = answerAt j a s := by
  have h' : a.toNat ≠ b.toNat := fun e => h (BitVec.eq_of_toNat_eq e)
  simp [answerAt, State.readMem, Memory.read_write_ne _ h']

/-- After a push the Bus answers as before to a read outside the pushed byte. -/
theorem answerAt_push_ne (j : Nat) {a : Addr} (s : State) (h : a ≠ stackAddr s) (v : Byte) :
    answerAt j a (push v s) = answerAt j a s := by
  have h' : a.toNat ≠ (stackAddr s).toNat := fun e => h (BitVec.eq_of_toNat_eq e)
  simp [answerAt, State.readMem, Memory.read_write_ne _ h']

/-- With RAM alone behind the Bus, a read answers the byte memory holds (D26). -/
theorem answerAt_ram {s : State} (h : s.bus.answers = []) (k : Nat) (a : Addr) : answerAt k a s = s.readMem a := by
  simp [answerAt, oracle, h]

/-! ### Memory after an operation -/


@[simp] theorem readMem_tick (a : Addr) (s : State) : (tick s).readMem a = s.readMem a := by
  simp [State.readMem]
@[simp] theorem readMem_record (a : Addr) (k : AccessKind) (b : Addr) (v : Byte) (s : State) : (record k b v s).readMem a = s.readMem a := by
  simp [State.readMem]
@[simp] theorem readMem_readCycle (a : Addr) (b : Addr) (s : State) : (readCycle b s).readMem a = s.readMem a := by
  simp [State.readMem]
@[simp] theorem readMem_dummyRead (a : Addr) (b : Addr) (s : State) : (dummyRead b s).readMem a = s.readMem a := by
  simp [State.readMem]
@[simp] theorem readMem_readAtPc (a : Addr) (v : Byte) (s : State) : (readAtPc v s).readMem a = s.readMem a := by
  simp [State.readMem]
@[simp] theorem readMem_fetchCycle (a : Addr) (v : Byte) (s : State) : (fetchCycle v s).readMem a = s.readMem a := by
  simp [State.readMem]
@[simp] theorem readMem_decodeClock (a : Addr) (op : Byte) (e : Entry) (s : State) : (decodeClock op e s).readMem a = s.readMem a := by
  simp [State.readMem]
@[simp] theorem readMem_mapRegs (a : Addr) (f : RegisterFile → RegisterFile) (s : State) : (mapRegs f s).readMem a = s.readMem a := by
  simp [State.readMem]
@[simp] theorem readMem_setPc (a : Addr) (b : Addr) (s : State) : (setPc b s).readMem a = s.readMem a := by
  simp [State.readMem]
@[simp] theorem readMem_setSp (a : Addr) (v : Byte) (s : State) : (setSp v s).readMem a = s.readMem a := by
  simp [State.readMem]
@[simp] theorem readMem_setEa (a : Addr) (b : Addr) (s : State) : (setEa b s).readMem a = s.readMem a := by
  simp [State.readMem]
@[simp] theorem readMem_setOperand (a : Addr) (v : Byte) (s : State) : (setOperand v s).readMem a = s.readMem a := by
  simp [State.readMem]
@[simp] theorem readMem_setTemp (a : Addr) (v : Byte) (s : State) : (setTemp v s).readMem a = s.readMem a := by
  simp [State.readMem]
@[simp] theorem readMem_setCrossed (a : Addr) (c : Bool) (s : State) : (setCrossed c s).readMem a = s.readMem a := by
  simp [State.readMem]
@[simp] theorem readMem_endInstr (a : Addr) (s : State) : (endInstr s).readMem a = s.readMem a := by
  simp [State.readMem]
@[simp] theorem readMem_poll (a : Addr) (s : State) : (poll s).readMem a = s.readMem a := by
  simp [State.readMem]
@[simp] theorem readMem_beginInterrupt (a : Addr) (p : Phase) (s : State) : (beginInterrupt p s).readMem a = s.readMem a := by
  simp [State.readMem]
@[simp] theorem readMem_stalledClock (a : Addr) (s : State) : (stalledClock s).readMem a = s.readMem a := by
  simp [State.readMem]

/-- A store changes the byte at its address and no other. -/
@[simp] theorem readMem_writeCycle (a b : Addr) (v : Byte) (s : State) :
    (writeCycle b v s).readMem a = if a = b then v else s.readMem a := by
  simp [State.readMem, Memory.read_write_addr]

/-- A push changes the byte at the stack address and no other. -/
@[simp] theorem readMem_push (a : Addr) (v : Byte) (s : State) :
    (push v s).readMem a = if a = stackAddr s then v else s.readMem a := by
  simp [State.readMem, Memory.read_write_addr]

/-- A dummy write changes at most the byte at its address. -/
theorem readMem_dummyWrite_ne {a b : Addr} (h : a ≠ b) (v : Byte) (s : State) :
    (dummyWrite b v s).readMem a = s.readMem a := by
  have h' : a.toNat ≠ b.toNat := fun e => h (BitVec.eq_of_toNat_eq e)
  unfold dummyWrite
  split <;> simp [State.readMem, Memory.read_write_ne _ h']

/-- `writeCycle` after a dummy write to the same address, byte by byte. -/
theorem readMem_writeCycle_dummyWrite (a b : Addr) (v w : Byte) (s : State) :
    (if a = b then w else (dummyWrite b v s).readMem a) = if a = b then w else s.readMem a := by
  split
  · rfl
  · next h => rw [readMem_dummyWrite_ne h]

/-- A dummy write followed by a write to the same address leaves what the write alone leaves. -/
theorem writeCycle_dummyWrite_mem (a : Addr) (v w : Byte) (s : State) :
    (writeCycle a w (dummyWrite a v s)).mem = Memory.write s.mem a.toNat w := by
  unfold dummyWrite
  split <;> simp [Memory.write_write]

/-! ### The operations keep memory canonical -/

theorem writeCycle_wf {s : State} (h : Memory.wf s.mem = true) (a : Addr) (v : Byte) :
    Memory.wf (writeCycle a v s).mem = true :=
  Memory.wf_write h a.isLt v

theorem push_wf {s : State} (h : Memory.wf s.mem = true) (v : Byte) : Memory.wf (push v s).mem = true :=
  Memory.wf_write h (stackAddr s).isLt v

theorem dummyWrite_wf {s : State} (h : Memory.wf s.mem = true) (a : Addr) (v : Byte) :
    Memory.wf (dummyWrite a v s).mem = true := by
  unfold dummyWrite
  split
  · exact Memory.wf_write h a.isLt v
  · exact h

end Sys2Proof.Machine
end

