-- ==== Sys2Proof/Laws/Clock.lean ====
section
/-! SUPPORT. The clock and the step: one lemma per case, so that no proof unfolds them; polling before a bus operation
adds nothing to it. -/

namespace Sys2Proof.Machine

open Sys2Proof

/-! ## The clock -/

theorem clock_halted {s : State} {f : Fault} (h : s.halted = some f) : clock s = s := by
  simp [clock, h]

theorem clock_stalled {s : State} (h : s.halted = none) (hs : s.stallCycles ≠ 0) : clock s = stalledClock s := by
  simp [clock, h, hs]

theorem clock_inFlight {s : State} (h : s.halted = none) (hs : s.stallCycles = 0) (hp : s.seq.phase ≠ .idle) :
    clock s = microStep (poll s) := by
  simp only [clock, h, hs, if_true]
  split
  · next hi => exact absurd hi hp
  · rfl

theorem clock_idle {s : State} (h : s.halted = none) (hs : s.stallCycles = 0) (hp : s.seq.phase = .idle) :
    clock s = idleClock (poll s) := by
  simp [clock, h, hs, poll, hp]

theorem clock_nmi {s : State} (h : s.halted = none) (hs : s.stallCycles = 0) (hp : s.seq.phase = .idle)
    (hn : s.latches.nmiPending = true) :
    clock s = microStep (beginInterrupt .nmiSeq
      { poll s with latches := { (poll s).latches with nmiPending := false } }) := by
  rw [clock_idle h hs hp, idleClock, if_pos (show (poll s).latches.nmiPending = true from hn)]

theorem clock_irq {s : State} (h : s.halted = none) (hs : s.stallCycles = 0) (hp : s.seq.phase = .idle)
    (hn : s.latches.nmiPending = false) (hi : (s.irqIn && !s.regs.i) = true) :
    clock s = microStep (beginInterrupt .irqSeq (poll s)) := by
  have hn' : ¬(poll s).latches.nmiPending = true := fun e => absurd (hn.symm.trans e) (by decide)
  have hi' : ((poll s).latches.irqLineAsserted && !(poll s).regs.i) = true := hi
  rw [clock_idle h hs hp, idleClock, if_neg hn', if_pos hi']

theorem clock_decode {s : State} (h : s.halted = none) (hs : s.stallCycles = 0) (hp : s.seq.phase = .idle)
    (hn : s.latches.nmiPending = false) (hi : (s.irqIn && !s.regs.i) = false) : clock s = decodeRow (poll s) := by
  have hn' : ¬(poll s).latches.nmiPending = true := fun e => absurd (hn.symm.trans e) (by decide)
  have hi' : ¬((poll s).latches.irqLineAsserted && !(poll s).regs.i) = true := fun e => absurd (hi.symm.trans e) (by decide)
  rw [clock_idle h hs hp, idleClock, if_neg hn', if_neg hi']

theorem clocks_succ (k : Nat) (s : State) : clocks (k + 1) s = clocks k (clock s) := rfl

theorem clocks_add (a b : Nat) (s : State) : clocks (a + b) s = clocks b (clocks a s) := by
  induction a generalizing s with
  | zero => simp [clocks]
  | succ a ih => rw [show a + 1 + b = a + b + 1 by omega, clocks_succ, ih, clocks_succ]

/-- One more clock after `k`. -/
theorem clocks_succ_last (k : Nat) (s : State) : clocks (k + 1) s = clock (clocks k s) := clocks_add k 1 s

theorem outcomeOf_running {s : State} (h : s.halted = none) : outcomeOf s = .next s := by
  simp [outcomeOf, h]

theorem outcomeOf_halted {s : State} {f : Fault} (h : s.halted = some f) : outcomeOf s = .fault f := by
  simp [outcomeOf, h]

/-! ## The step -/

theorem step_halted {s : State} {f : Fault} (h : s.halted = some f) : step s = .fault f := by
  simp [step, h]

theorem step_stalled {s : State} (h : s.halted = none) (hs : s.stallCycles ≠ 0) : step s = .next (stalledClock s) := by
  simp [step, h, hs]

theorem step_inFlight {s : State} (h : s.halted = none) (hs : s.stallCycles = 0) (hp : s.seq.phase ≠ .idle) :
    step s = outcomeOf (clock s) := by
  simp only [step, h, hs, if_true]

theorem step_nmi {s : State} (h : s.halted = none) (hs : s.stallCycles = 0) (hp : s.seq.phase = .idle)
    (hn : s.latches.nmiPending = true) : step s = .next (takeNmi s) := by
  simp [step, h, hs, hp, arbitrate, hn]

theorem step_irq {s : State} (h : s.halted = none) (hs : s.stallCycles = 0) (hp : s.seq.phase = .idle)
    (hn : s.latches.nmiPending = false) (hi : (s.irqIn && !s.regs.i) = true) : step s = .next (takeIrq s) := by
  simp only [step, h, hs, hp, arbitrate, hn, hi, if_true, Bool.false_eq_true, if_false]

theorem step_fetch {s : State} (hr : Ready s) :
    step s = match fetchInstr s with
      | .ok i => exec i s
      | .error f => .fault f := by
  obtain ⟨h, hs, hp, hn, hi⟩ := hr
  simp only [step, h, hs, hp, arbitrate, hn, hi, if_true, Bool.false_eq_true, if_false] <;> rfl

/-! ## Polling before a bus operation -/

theorem answer_poll (a : Addr) (s : State) : answer a (poll s) = answer a s := by
  simp [answer]

theorem stackAddr_poll (s : State) : stackAddr (poll s) = stackAddr s := rfl

theorem tick_poll (s : State) : tick (poll s) = tick s := rfl

theorem readCycle_poll (a : Addr) (s : State) : readCycle a (poll s) = readCycle a s := by
  simp only [readCycle, answer_poll]
  rfl

theorem writeCycle_poll (a : Addr) (v : Byte) (s : State) : writeCycle a v (poll s) = writeCycle a v s := rfl

theorem readAtPc_poll (v : Byte) (s : State) : readAtPc v (poll s) = readAtPc v s := rfl

theorem fetchCycle_poll (v : Byte) (s : State) : fetchCycle v (poll s) = fetchCycle v s := rfl

theorem push_poll (v : Byte) (s : State) : push v (poll s) = push v s := rfl

theorem decodeClock_poll (op : Byte) (e : Entry) (s : State) : decodeClock op e (poll s) = decodeClock op e s :=
  rfl

theorem dummyRead_poll (a : Addr) (s : State) : dummyRead a (poll s) = dummyRead a s := by
  simp only [dummyRead, poll_config, answer_poll]
  split <;> rfl

theorem dummyWrite_poll (a : Addr) (v : Byte) (s : State) : dummyWrite a v (poll s) = dummyWrite a v s := by
  simp only [dummyWrite, poll_config]
  split <;> rfl

end Sys2Proof.Machine
end

