-- ==== Sys2Proof/Laws/Operands.lean ====
section
/-! SUPPORT. One lemma per operand form: the whole effect of an instruction in that form, from T1 to END, in the words
of Safety.lean. Each says everything the form can do; a proof about an instruction cites it. -/

namespace Sys2Proof.Machine

open Sys2Proof

@[simp] theorem performed_read (d : DummyBus) : performed d .read = true := by cases d <;> rfl
@[simp] theorem performed_write (d : DummyBus) : performed d .write = true := by cases d <;> rfl

/-- The trace after a dummy read. -/
theorem dummyRead_bus (a : Addr) (s : State) :
    (dummyRead a s).bus = { s.bus with
      now := s.bus.now + 1
      trace := if performed s.config.dummyBus .dummyRead then ⟨s.bus.now + 1, .dummyRead, a, answer a s⟩ :: s.bus.trace
        else s.bus.trace } := by
  unfold dummyRead
  split <;> rename_i h <;> simp [h, performed]

/-- The trace after a dummy write. -/
theorem dummyWrite_bus (a : Addr) (v : Byte) (s : State) :
    (dummyWrite a v s).bus = { s.bus with
      now := s.bus.now + 1
      trace := if performed s.config.dummyBus .dummyWrite then ⟨s.bus.now + 1, .dummyWrite, a, v⟩ :: s.bus.trace
        else s.bus.trace } := by
  unfold dummyWrite
  split <;> rename_i h <;> simp [h, performed]

/-- `FetchByte` twice moves PC by two. -/
@[simp] theorem pc_add_one_one (pc : Addr) : pc + 1#16 + 1#16 = pc + 2#16 := by
  rw [BitVec.add_assoc]; rfl

@[simp] theorem pc_add_two_one (pc : Addr) : pc + 2#16 + 1#16 = pc + 3#16 := by
  rw [BitVec.add_assoc]; rfl

theorem samePage_iff (a b : Addr) : samePage a b = (hi a == hi b) := rfl

/-! ## R kind -/

section Read

variable (apply : Apply) (op : Byte) (e : Entry) (s : State)

theorem readImm_completes (v : Byte) :
    EndsWith (readImm apply v (decodeClock op e s)) s s.latches.nmiPending
      ((Form.imm v).prep true op s ++ [(.read, (Form.imm v).ea s, v)]) (apply v (pcAfter 2 s)) s.readMem := by
  refine ⟨_, rfl, ?_⟩
  dsimp only [Form.ea, Form.value, Form.prep, fixSlot, izyBase, valueAt]
  simp [pcAfter, recordSlots]

theorem readZp_completes (p : Byte) :
    EndsWith (readZp apply p (decodeClock op e s)) s s.latches.nmiPending
      ((Form.zp p).prep true op s ++ [(.read, (Form.zp p).ea s, (Form.zp p).value true op s)])
      (apply ((Form.zp p).value true op s) (pcAfter 2 s)) s.readMem := by
  refine ⟨_, rfl, ?_⟩
  dsimp only [Form.ea, Form.value, Form.prep, fixSlot, izyBase, valueAt]
  simp [readFinal, addrZp, answer, pcAfter, recordSlots, Nat.add_assoc]

theorem readZpx_completes (p : Byte) :
    EndsWith (readZpx apply p (decodeClock op e s)) s s.latches.nmiPending
      ((Form.zpx p).prep true op s ++ [(.read, (Form.zpx p).ea s, (Form.zpx p).value true op s)])
      (apply ((Form.zpx p).value true op s) (pcAfter 2 s)) s.readMem := by
  refine ⟨_, rfl, ?_⟩
  dsimp only [Form.ea, Form.value, Form.prep, fixSlot, izyBase, valueAt]
  simp [readFinal, addrZpIndexed, addrZp, answer, pcAfter, recordSlots,
    dummyRead_bus, Nat.add_assoc]

theorem readZpy_completes (p : Byte) :
    EndsWith (readZpy apply p (decodeClock op e s)) s s.latches.nmiPending
      ((Form.zpy p).prep true op s ++ [(.read, (Form.zpy p).ea s, (Form.zpy p).value true op s)])
      (apply ((Form.zpy p).value true op s) (pcAfter 2 s)) s.readMem := by
  refine ⟨_, rfl, ?_⟩
  dsimp only [Form.ea, Form.value, Form.prep, fixSlot, izyBase, valueAt]
  simp [readFinal, addrZpIndexed, addrZp, answer, pcAfter, recordSlots,
    dummyRead_bus, Nat.add_assoc]

theorem readAbs_completes (a : Addr) :
    EndsWith (readAbs apply a (decodeClock op e s)) s s.latches.nmiPending
      ((Form.abs a).prep true op s ++ [(.read, (Form.abs a).ea s, (Form.abs a).value true op s)])
      (apply ((Form.abs a).value true op s) (pcAfter 3 s)) s.readMem := by
  refine ⟨_, rfl, ?_⟩
  dsimp only [Form.ea, Form.value, Form.prep, fixSlot, izyBase, valueAt]
  simp [readFinal, addrAbs, answer, pcAfter, recordSlots, Nat.add_assoc]

theorem readAbx_completes (a : Addr) :
    EndsWith (readAbx apply a (decodeClock op e s)) s s.latches.nmiPending
      ((Form.abx a).prep true op s ++ [(.read, (Form.abx a).ea s, (Form.abx a).value true op s)])
      (apply ((Form.abx a).value true op s) (pcAfter 3 s)) s.readMem := by
  refine ⟨_, rfl, ?_⟩
  dsimp only [Form.ea, Form.value, Form.prep, fixSlot, izyBase, valueAt]
  by_cases h : hi a = hi (a + zext16 s.regs.x) <;>
  simp [readFinal, addrAbsChecked, addrAbs, fixupIfCrossed, fixup, samePage_iff, h, answer, pcAfter, recordSlots, dummyRead_bus, Nat.add_assoc]

theorem readAby_completes (a : Addr) :
    EndsWith (readAby apply a (decodeClock op e s)) s s.latches.nmiPending
      ((Form.aby a).prep true op s ++ [(.read, (Form.aby a).ea s, (Form.aby a).value true op s)])
      (apply ((Form.aby a).value true op s) (pcAfter 3 s)) s.readMem := by
  refine ⟨_, rfl, ?_⟩
  dsimp only [Form.ea, Form.value, Form.prep, fixSlot, izyBase, valueAt]
  by_cases h : hi a = hi (a + zext16 s.regs.y) <;>
  simp [readFinal, addrAbsChecked, addrAbs, fixupIfCrossed, fixup, samePage_iff, h, answer, pcAfter, recordSlots, dummyRead_bus, Nat.add_assoc]

theorem readIzx_completes (p : Byte) :
    EndsWith (readIzx apply p (decodeClock op e s)) s s.latches.nmiPending
      ((Form.izx p).prep true op s ++ [(.read, (Form.izx p).ea s, (Form.izx p).value true op s)])
      (apply ((Form.izx p).value true op s) (pcAfter 2 s)) s.readMem := by
  refine ⟨_, rfl, ?_⟩
  dsimp only [Form.ea, Form.value, Form.prep, fixSlot, izyBase, valueAt]
  simp [readFinalLocal, addrIzx, answer, pcAfter, recordSlots,
    dummyRead_bus, Nat.add_assoc]

theorem readIzy_completes (p : Byte) :
    EndsWith (readIzy apply p (decodeClock op e s)) s s.latches.nmiPending
      ((Form.izy p).prep true op s ++ [(.read, (Form.izy p).ea s, (Form.izy p).value true op s)])
      (apply ((Form.izy p).value true op s) (pcAfter 2 s)) s.readMem := by
  refine ⟨_, rfl, ?_⟩
  dsimp only [Form.ea, Form.value, Form.prep, fixSlot, izyBase, valueAt]
  by_cases h : hi (izyBase p s + zext16 s.regs.y) = valueAt 4 (zext16 (p + 1#8)) s
  · simp only [izyBase, valueAt] at h
    simp [readFinalLocal, addrIzyBase, fixupIfCrossed, samePage_iff, h, answer, pcAfter, recordSlots, Nat.add_assoc]
  · simp only [izyBase, valueAt] at h
    simp [readFinalLocal, addrIzyBase, fixupIfCrossed, fixup, samePage_iff, Ne.symm h, answer, pcAfter, recordSlots, dummyRead_bus, Nat.add_assoc]

end Read

/-! ## W kind -/

section Write

variable (value : RegisterFile → Byte) (op : Byte) (e : Entry) (s : State)

theorem writeZp_completes (p : Byte) :
    EndsWith (writeZp value p (decodeClock op e s)) s s.latches.nmiPending
      ((Form.zp p).prep false op s ++ [(.write, (Form.zp p).ea s, value (pcAfter 2 s))]) (pcAfter 2 s)
      (fun a => if a = (Form.zp p).ea s then value (pcAfter 2 s) else s.readMem a) := by
  refine ⟨_, rfl, ?_⟩
  dsimp only [Form.ea, Form.value, Form.prep, fixSlot, izyBase, valueAt]
  simp [writeFinal, addrZp, pcAfter, recordSlots, Nat.add_assoc]
  exact fun _ => rfl

theorem writeZpx_completes (p : Byte) :
    EndsWith (writeZpx value p (decodeClock op e s)) s s.latches.nmiPending
      ((Form.zpx p).prep false op s ++ [(.write, (Form.zpx p).ea s, value (pcAfter 2 s))]) (pcAfter 2 s)
      (fun a => if a = (Form.zpx p).ea s then value (pcAfter 2 s) else s.readMem a) := by
  refine ⟨_, rfl, ?_⟩
  dsimp only [Form.ea, Form.value, Form.prep, fixSlot, izyBase, valueAt]
  simp [writeFinal, addrZpIndexed, addrZp, answer, pcAfter, recordSlots, dummyRead_bus,
    Nat.add_assoc]
  exact fun _ => rfl

theorem writeZpy_completes (p : Byte) :
    EndsWith (writeZpy value p (decodeClock op e s)) s s.latches.nmiPending
      ((Form.zpy p).prep false op s ++ [(.write, (Form.zpy p).ea s, value (pcAfter 2 s))]) (pcAfter 2 s)
      (fun a => if a = (Form.zpy p).ea s then value (pcAfter 2 s) else s.readMem a) := by
  refine ⟨_, rfl, ?_⟩
  dsimp only [Form.ea, Form.value, Form.prep, fixSlot, izyBase, valueAt]
  simp [writeFinal, addrZpIndexed, addrZp, answer, pcAfter, recordSlots, dummyRead_bus,
    Nat.add_assoc]
  exact fun _ => rfl

theorem writeAbs_completes (b : Addr) :
    EndsWith (writeAbs value b (decodeClock op e s)) s s.latches.nmiPending
      ((Form.abs b).prep false op s ++ [(.write, (Form.abs b).ea s, value (pcAfter 3 s))]) (pcAfter 3 s)
      (fun a => if a = (Form.abs b).ea s then value (pcAfter 3 s) else s.readMem a) := by
  refine ⟨_, rfl, ?_⟩
  dsimp only [Form.ea, Form.value, Form.prep, fixSlot, izyBase, valueAt]
  simp [writeFinal, addrAbs, pcAfter, recordSlots, Nat.add_assoc]
  exact fun _ => rfl

theorem writeAbx_completes (b : Addr) :
    EndsWith (writeAbx value b (decodeClock op e s)) s s.latches.nmiPending
      ((Form.abx b).prep false op s ++ [(.write, (Form.abx b).ea s, value (pcAfter 3 s))]) (pcAfter 3 s)
      (fun a => if a = (Form.abx b).ea s then value (pcAfter 3 s) else s.readMem a) := by
  refine ⟨_, rfl, ?_⟩
  dsimp only [Form.ea, Form.value, Form.prep, fixSlot, izyBase, valueAt]
  simp [writeFinal, addrAbsChecked, addrAbs, fixup, answer, pcAfter, recordSlots,
    dummyRead_bus, Nat.add_assoc]
  exact fun _ => rfl

theorem writeAby_completes (b : Addr) :
    EndsWith (writeAby value b (decodeClock op e s)) s s.latches.nmiPending
      ((Form.aby b).prep false op s ++ [(.write, (Form.aby b).ea s, value (pcAfter 3 s))]) (pcAfter 3 s)
      (fun a => if a = (Form.aby b).ea s then value (pcAfter 3 s) else s.readMem a) := by
  refine ⟨_, rfl, ?_⟩
  dsimp only [Form.ea, Form.value, Form.prep, fixSlot, izyBase, valueAt]
  simp [writeFinal, addrAbsChecked, addrAbs, fixup, answer, pcAfter, recordSlots,
    dummyRead_bus, Nat.add_assoc]
  exact fun _ => rfl

theorem writeIzx_completes (p : Byte) :
    EndsWith (writeIzx value p (decodeClock op e s)) s s.latches.nmiPending
      ((Form.izx p).prep false op s ++ [(.write, (Form.izx p).ea s, value (pcAfter 2 s))]) (pcAfter 2 s)
      (fun a => if a = (Form.izx p).ea s then value (pcAfter 2 s) else s.readMem a) := by
  refine ⟨_, rfl, ?_⟩
  dsimp only [Form.ea, Form.value, Form.prep, fixSlot, izyBase, valueAt]
  simp [writeFinal, addrIzx, answer, pcAfter, recordSlots, dummyRead_bus, Nat.add_assoc]
  exact fun _ => rfl

theorem writeIzy_completes (p : Byte) :
    EndsWith (writeIzy value p (decodeClock op e s)) s s.latches.nmiPending
      ((Form.izy p).prep false op s ++ [(.write, (Form.izy p).ea s, value (pcAfter 2 s))]) (pcAfter 2 s)
      (fun a => if a = (Form.izy p).ea s then value (pcAfter 2 s) else s.readMem a) := by
  refine ⟨_, rfl, ?_⟩
  dsimp only [Form.ea, Form.value, Form.prep, fixSlot, izyBase, valueAt]
  simp [writeFinal, addrIzyBase, fixup, answer, pcAfter, recordSlots,
    dummyRead_bus, Nat.add_assoc]
  exact fun _ => rfl

end Write

/-! ## M kind -/

section Modify

variable (modify : Modify) (op : Byte) (e : Entry) (s : State)

/-- SetNZ and C as one update of the registers. -/
theorem setNZ_setCarry (v : Byte) (c : Option Bool) (r : RegisterFile) :
    setNZ v (setCarry c r) = { r with z := v == 0#8, n := v.getLsbD 7, c := c.getD r.c } := by
  cases c <;> rfl

theorem modifyZp_completes (p : Byte) :
    EndsWith (modifyZp modify p (decodeClock op e s)) s s.latches.nmiPending
      ((Form.zp p).prep false op s ++
        [(.read, (Form.zp p).ea s, (Form.zp p).value false op s),
          (.dummyWrite, (Form.zp p).ea s, (Form.zp p).value false op s),
          (.write, (Form.zp p).ea s, (modify ((Form.zp p).value false op s) s.regs.c).1)])
      { pcAfter 2 s with
        z := (modify ((Form.zp p).value false op s) s.regs.c).1 == 0#8
        n := (modify ((Form.zp p).value false op s) s.regs.c).1.getLsbD 7
        c := (modify ((Form.zp p).value false op s) s.regs.c).2.getD s.regs.c }
      (fun a => if a = (Form.zp p).ea s then (modify ((Form.zp p).value false op s) s.regs.c).1 else s.readMem a) := by
  refine ⟨_, rfl, ?_⟩
  dsimp only [Form.ea, Form.value, Form.prep, fixSlot, izyBase, valueAt]
  simp [rmwFinal, rmwRead, rmwApply, rmwWrite, addrZp, answer, pcAfter,
    recordSlots, dummyWrite_bus, setNZ_setCarry, readMem_writeCycle_dummyWrite, Nat.add_assoc]

theorem modifyZpx_completes (p : Byte) :
    EndsWith (modifyZpx modify p (decodeClock op e s)) s s.latches.nmiPending
      ((Form.zpx p).prep false op s ++
        [(.read, (Form.zpx p).ea s, (Form.zpx p).value false op s),
          (.dummyWrite, (Form.zpx p).ea s, (Form.zpx p).value false op s),
          (.write, (Form.zpx p).ea s, (modify ((Form.zpx p).value false op s) s.regs.c).1)])
      { pcAfter 2 s with
        z := (modify ((Form.zpx p).value false op s) s.regs.c).1 == 0#8
        n := (modify ((Form.zpx p).value false op s) s.regs.c).1.getLsbD 7
        c := (modify ((Form.zpx p).value false op s) s.regs.c).2.getD s.regs.c }
      (fun a => if a = (Form.zpx p).ea s then (modify ((Form.zpx p).value false op s) s.regs.c).1 else s.readMem a) := by
  refine ⟨_, rfl, ?_⟩
  dsimp only [Form.ea, Form.value, Form.prep, fixSlot, izyBase, valueAt]
  simp [rmwFinal, rmwRead, rmwApply, rmwWrite, addrZpIndexed, addrZp, answer, pcAfter, recordSlots, dummyRead_bus, dummyWrite_bus, setNZ_setCarry, readMem_writeCycle_dummyWrite,
    Nat.add_assoc]

theorem modifyAbs_completes (b : Addr) :
    EndsWith (modifyAbs modify b (decodeClock op e s)) s s.latches.nmiPending
      ((Form.abs b).prep false op s ++
        [(.read, (Form.abs b).ea s, (Form.abs b).value false op s),
          (.dummyWrite, (Form.abs b).ea s, (Form.abs b).value false op s),
          (.write, (Form.abs b).ea s, (modify ((Form.abs b).value false op s) s.regs.c).1)])
      { pcAfter 3 s with
        z := (modify ((Form.abs b).value false op s) s.regs.c).1 == 0#8
        n := (modify ((Form.abs b).value false op s) s.regs.c).1.getLsbD 7
        c := (modify ((Form.abs b).value false op s) s.regs.c).2.getD s.regs.c }
      (fun a => if a = (Form.abs b).ea s then (modify ((Form.abs b).value false op s) s.regs.c).1 else s.readMem a) := by
  refine ⟨_, rfl, ?_⟩
  dsimp only [Form.ea, Form.value, Form.prep, fixSlot, izyBase, valueAt]
  simp [rmwFinal, rmwRead, rmwApply, rmwWrite, addrAbs, answer, pcAfter,
    recordSlots, dummyWrite_bus, setNZ_setCarry, readMem_writeCycle_dummyWrite, Nat.add_assoc]

theorem modifyAbx_completes (b : Addr) :
    EndsWith (modifyAbx modify b (decodeClock op e s)) s s.latches.nmiPending
      ((Form.abx b).prep false op s ++
        [(.read, (Form.abx b).ea s, (Form.abx b).value false op s),
          (.dummyWrite, (Form.abx b).ea s, (Form.abx b).value false op s),
          (.write, (Form.abx b).ea s, (modify ((Form.abx b).value false op s) s.regs.c).1)])
      { pcAfter 3 s with
        z := (modify ((Form.abx b).value false op s) s.regs.c).1 == 0#8
        n := (modify ((Form.abx b).value false op s) s.regs.c).1.getLsbD 7
        c := (modify ((Form.abx b).value false op s) s.regs.c).2.getD s.regs.c }
      (fun a => if a = (Form.abx b).ea s then (modify ((Form.abx b).value false op s) s.regs.c).1 else s.readMem a) := by
  refine ⟨_, rfl, ?_⟩
  dsimp only [Form.ea, Form.value, Form.prep, fixSlot, izyBase, valueAt]
  simp [rmwFinal, rmwRead, rmwApply, rmwWrite, addrAbsChecked, addrAbs, fixup, answer, pcAfter, recordSlots, dummyRead_bus, dummyWrite_bus, setNZ_setCarry, readMem_writeCycle_dummyWrite, Nat.add_assoc]

end Modify

end Sys2Proof.Machine
end

