-- ==== Sys2Proof/Laws/Control.lean ====
section
/-! SUPPORT. One lemma per remaining form (implied, accumulator, stack, branch, jump, call, return) and for taking and
leaving an interrupt: the whole effect, in the words of Safety.lean. -/

namespace Sys2Proof.Machine

open Sys2Proof

/-- A vector address is outside the stack page. -/
theorem vector_ne_stack (sp : Byte) :
    nmiVector ≠ w16 0x01#8 sp ∧ nmiVector + 1#16 ≠ w16 0x01#8 sp ∧
      irqVector ≠ w16 0x01#8 sp ∧ irqVector + 1#16 ≠ w16 0x01#8 sp := by
  have key : ∀ v : Addr, hi v ≠ 0x01#8 → v ≠ w16 0x01#8 sp := fun v hv e => hv (by simp [e])
  exact ⟨key _ (by decide), key _ (by decide), key _ (by decide), key _ (by decide)⟩

/-! ## Implied and accumulator -/

section Implied

variable (op : Byte) (e : Entry) (s : State)

theorem implied_completes (f : RegisterFile → RegisterFile) :
    EndsWith (implied f (decodeClock op e s)) s s.latches.nmiPending
      [(.read, s.regs.pc, op), (.dummyRead, s.regs.pc + 1#16, valueAt 2 (s.regs.pc + 1#16) s)]
      (f (pcAfter 1 s)) s.readMem := by
  refine ⟨_, rfl, ?_⟩
  simp [answer, valueAt, pcAfter, recordSlots, dummyRead_bus, Nat.add_assoc]

theorem modifyAcc_completes (modify : Modify) :
    EndsWith (modifyAcc modify (decodeClock op e s)) s s.latches.nmiPending
      [(.read, s.regs.pc, op), (.dummyRead, s.regs.pc + 1#16, valueAt 2 (s.regs.pc + 1#16) s)]
      { pcAfter 1 s with
        a := (modify s.regs.a s.regs.c).1
        z := (modify s.regs.a s.regs.c).1 == 0#8
        n := (modify s.regs.a s.regs.c).1.getLsbD 7
        c := (modify s.regs.a s.regs.c).2.getD s.regs.c }
      s.readMem := by
  refine ⟨_, rfl, ?_⟩
  simp [answer, valueAt, pcAfter, recordSlots, dummyRead_bus, setNZ_setCarry, Nat.add_assoc]

/-! ## Stack -/

theorem pushForm_completes (value : RegisterFile → Byte) :
    EndsWith (pushForm value (decodeClock op e s)) s s.latches.nmiPending
      [(.read, s.regs.pc, op), (.dummyRead, s.regs.pc + 1#16, valueAt 2 (s.regs.pc + 1#16) s),
        (.write, w16 0x01#8 s.regs.sp, value (pcAfter 1 s))]
      { pcAfter 1 s with sp := s.regs.sp - 1#8 }
      (fun a => if a = w16 0x01#8 s.regs.sp then value (pcAfter 1 s) else s.readMem a) := by
  refine ⟨_, rfl, ?_⟩
  simp [stackAddr, answer, valueAt, pcAfter, recordSlots, dummyRead_bus, Nat.add_assoc]

theorem pullForm_completes (apply : Apply) :
    EndsWith (pullForm apply (decodeClock op e s)) s s.latches.nmiPending
      [(.read, s.regs.pc, op), (.dummyRead, s.regs.pc + 1#16, valueAt 2 (s.regs.pc + 1#16) s),
        (.dummyRead, w16 0x01#8 s.regs.sp, valueAt 3 (w16 0x01#8 s.regs.sp) s),
        (.read, w16 0x01#8 (s.regs.sp + 1#8), valueAt 4 (w16 0x01#8 (s.regs.sp + 1#8)) s)]
      (apply (valueAt 4 (w16 0x01#8 (s.regs.sp + 1#8)) s) { pcAfter 1 s with sp := s.regs.sp + 1#8 })
      s.readMem := by
  refine ⟨_, rfl, ?_⟩
  simp [stackAddr, answer, valueAt, pcAfter, recordSlots, dummyRead_bus, Nat.add_assoc]

/-! ## Branches -/

theorem branch_completes (cond : RegisterFile → Bool) (offset : Byte) :
    let next := s.regs.pc + 2#16
    let target := next + sext16 offset
    let taken := cond (pcAfter 2 s)
    EndsWith (branch cond offset (decodeClock op e s)) s s.latches.nmiPending
      ((.read, s.regs.pc, op) :: (.read, s.regs.pc + 1#16, offset) :: branchSlots taken target s)
      { s.regs with pc := if taken then target else next } s.readMem := by
  intro next target taken
  by_cases ht : cond (pcAfter 2 s) = true
  · by_cases hp : hi (s.regs.pc + 2#16) = hi (s.regs.pc + 2#16 + sext16 offset)
    · refine ⟨endInstr (branchTake offset (branchFetch offset (decodeClock op e s))), ?_, ?_⟩
      · simp [branch, branchFetch, branchTake, samePage_iff, hp]
        exact fun h => absurd ht (by simpa [pcAfter] using h)
      · simp [taken, next, target, ht, branchSlots, hp, branchTake, branchFetch, answer, valueAt, recordSlots,
          dummyRead_bus, Nat.add_assoc]
    · refine ⟨branchFix (hi (s.regs.pc + 2#16)) (branchTake offset (branchFetch offset (decodeClock op e s))), ?_, ?_⟩
      · simp [branch, branchFetch, branchTake, samePage_iff, hp]
        exact fun h => absurd ht (by simpa [pcAfter] using h)
      · simp [taken, next, target, ht, branchSlots, hp, branchFix, branchTake, branchFetch, answer, valueAt,
          recordSlots, dummyRead_bus, Nat.add_assoc]
  · refine ⟨endInstr (branchFetch offset (decodeClock op e s)), ?_, ?_⟩
    · simp [branch, branchFetch]
      intro h
      exact absurd (by simpa [pcAfter] using h) ht
    · simp [taken, next, ht, branchSlots, branchFetch, recordSlots, Nat.add_assoc]

/-! ## Jumps, calls, returns -/

theorem jumpAbs_completes (target : Addr) :
    EndsWith (jumpAbs target (decodeClock op e s)) s s.latches.nmiPending
      [(.read, s.regs.pc, op), (.read, s.regs.pc + 1#16, lo target), (.read, s.regs.pc + 2#16, hi target)]
      { s.regs with pc := target } s.readMem := by
  refine ⟨_, rfl, ?_⟩
  simp [jumpFinal, recordSlots, Nat.add_assoc]

theorem jumpInd_completes (ptr : Addr) :
    let high := w16 (hi ptr) (lo ptr + 1#8)
    EndsWith (jumpInd ptr (decodeClock op e s)) s s.latches.nmiPending
      [(.read, s.regs.pc, op), (.read, s.regs.pc + 1#16, lo ptr), (.read, s.regs.pc + 2#16, hi ptr),
        (.read, ptr, valueAt 4 ptr s), (.read, high, valueAt 5 high s)]
      { s.regs with pc := w16 (valueAt 5 high s) (valueAt 4 ptr s) } s.readMem := by
  refine ⟨_, rfl, ?_⟩
  simp [addrAbs, jumpIndLow, jumpIndHigh, pointerHigh, answer, valueAt, recordSlots, Nat.add_assoc]

theorem callForm_completes (target : Addr) :
    let ret := s.regs.pc + 2#16
    let sp := s.regs.sp
    EndsWith (callForm target (decodeClock op e s)) s s.latches.nmiPending
      [(.read, s.regs.pc, op), (.read, s.regs.pc + 1#16, lo target), (.read, s.regs.pc + 2#16, hi target),
        (.dummyRead, w16 0x01#8 sp, valueAt 4 (w16 0x01#8 sp) s), (.write, w16 0x01#8 sp, hi ret),
        (.write, w16 0x01#8 (sp - 1#8), lo ret)]
      { s.regs with pc := target, sp := sp - 2#8 }
      (fun a => if a = w16 0x01#8 (sp - 1#8) then lo ret else if a = w16 0x01#8 sp then hi ret else s.readMem a) := by
  refine ⟨_, rfl, ?_⟩
  simp [jsrFinal, jsrPushHigh, jsrBack, stackAddr, answer, valueAt, recordSlots, dummyRead_bus, Nat.add_assoc]

theorem returnForm_completes :
    let sp := s.regs.sp
    let l := valueAt 4 (w16 0x01#8 (sp + 1#8)) s
    let h := valueAt 5 (w16 0x01#8 (sp + 2#8)) s
    EndsWith (returnForm (decodeClock op e s)) s s.latches.nmiPending
      [(.read, s.regs.pc, op), (.dummyRead, s.regs.pc + 1#16, valueAt 2 (s.regs.pc + 1#16) s),
        (.dummyRead, w16 0x01#8 sp, valueAt 3 (w16 0x01#8 sp) s), (.read, w16 0x01#8 (sp + 1#8), l),
        (.read, w16 0x01#8 (sp + 2#8), h), (.dummyRead, w16 h l, valueAt 6 (w16 h l) s)]
      { s.regs with pc := w16 h l + 1#16, sp := sp + 2#8 } s.readMem := by
  refine ⟨_, rfl, ?_⟩
  simp [rtsFinal, rtsHigh, rtsLow, pullDummy, stackAddr, answer, valueAt, recordSlots, dummyRead_bus, Nat.add_assoc]

end Implied

/-! ## Taking and leaving an interrupt -/

/-- The status byte does not depend on PC or SP. -/
@[simp] theorem packP_pc_sp (b : Bool) (r : RegisterFile) (pc : Addr) (sp : Byte) :
    packP b { r with pc := pc, sp := sp } = packP b r := rfl

theorem break_completes (op : Byte) (e : Entry) (s : State) :
    EndsWith (breakForm (decodeClock op e s)) s s.latches.nmiPending
      ((.read, s.regs.pc, op) :: (.dummyRead, s.regs.pc + 1#16, valueAt 2 (s.regs.pc + 1#16) s) ::
        entrySlots irqVector (s.regs.pc + 2#16) (packP true s.regs) s)
      (entryRegs irqVector s) (entryMem (s.regs.pc + 2#16) (packP true s.regs) s) := by
  have hv := vector_ne_stack
  refine ⟨_, rfl, ?_⟩
  simp [pushAndVector, vectorLow, vectorHigh, brkSkip, entrySlots, entryRegs, entryMem, answer, valueAt, recordSlots,
    dummyRead_bus, answerAt_push_ne, stackAddr, hv, Nat.add_assoc]

/-- Taking an NMI or an IRQ from `s`, whatever the sequencer held before (R302). -/
theorem interruptSequence_completes (phase : Phase) (vec : Addr) (s : State)
    (hv : ∀ sp, vec ≠ w16 0x01#8 sp ∧ vec + 1#16 ≠ w16 0x01#8 sp) :
    EndsWith (.next (interruptSequence phase vec s)) s s.latches.nmiPending
      ((.dummyRead, s.regs.pc, valueAt 1 s.regs.pc s) :: (.dummyRead, s.regs.pc, valueAt 2 s.regs.pc s) ::
        entrySlots vec s.regs.pc (packP false s.regs) s)
      (entryRegs vec s) (entryMem s.regs.pc (packP false s.regs) s) := by
  refine ⟨_, rfl, ?_⟩
  simp [interruptSequence, pushAndVector, vectorLow, vectorHigh, entrySlots, entryRegs, entryMem, answer,
    valueAt, recordSlots, dummyRead_bus, answerAt_push_ne, stackAddr, hv, Nat.add_assoc]

/-- The arbiter's two interrupts (R131, R302 to R304). -/
theorem takeNmi_completes (s : State) :
    EndsWith (.next (takeNmi s)) s false
      ((.dummyRead, s.regs.pc, valueAt 1 s.regs.pc s) :: (.dummyRead, s.regs.pc, valueAt 2 s.regs.pc s) ::
        entrySlots nmiVector s.regs.pc (packP false s.regs) s)
      (entryRegs nmiVector s) (entryMem s.regs.pc (packP false s.regs) s) :=
  interruptSequence_completes .nmiSeq nmiVector { s with latches := { s.latches with nmiPending := false } }
    fun sp => ⟨(vector_ne_stack sp).1, (vector_ne_stack sp).2.1⟩

theorem takeIrq_completes (s : State) :
    EndsWith (.next (takeIrq s)) s s.latches.nmiPending
      ((.dummyRead, s.regs.pc, valueAt 1 s.regs.pc s) :: (.dummyRead, s.regs.pc, valueAt 2 s.regs.pc s) ::
        entrySlots irqVector s.regs.pc (packP false s.regs) s)
      (entryRegs irqVector s) (entryMem s.regs.pc (packP false s.regs) s) :=
  interruptSequence_completes .irqSeq irqVector s
    fun sp => ⟨(vector_ne_stack sp).2.2.1, (vector_ne_stack sp).2.2.2⟩

theorem rti_completes (op : Byte) (e : Entry) (s : State) :
    let sp := s.regs.sp
    let p := valueAt 4 (w16 0x01#8 (sp + 1#8)) s
    let l := valueAt 5 (w16 0x01#8 (sp + 2#8)) s
    let h := valueAt 6 (w16 0x01#8 (sp + 3#8)) s
    EndsWith (.next (returnFromInterrupt (decodeClock op e s))) s s.latches.nmiPending
      [(.read, s.regs.pc, op), (.dummyRead, s.regs.pc + 1#16, valueAt 2 (s.regs.pc + 1#16) s),
        (.dummyRead, w16 0x01#8 sp, valueAt 3 (w16 0x01#8 sp) s), (.read, w16 0x01#8 (sp + 1#8), p),
        (.read, w16 0x01#8 (sp + 2#8), l), (.read, w16 0x01#8 (sp + 3#8), h)]
      (unpackP p { s.regs with pc := w16 h l, sp := sp + 3#8 }) s.readMem := by
  refine ⟨_, rfl, ?_⟩
  simp [returnFromInterrupt, unpackP, stackAddr, answer, valueAt, recordSlots, dummyRead_bus, Nat.add_assoc]

end Sys2Proof.Machine
end

