-- ==== Sys2Proof/Laws/PerInstr.lean ====
section
/-! SUPPORT. Facts stated per instruction: the family TableRow says that the opcode of an instruction has, in the
decode table of R99, exactly the instruction's mnemonic, mode and cycle count, that its encoding has its mode's
length, and that it is well-formed. -/

namespace Sys2Proof.Laws.TableRow

open Sys2Proof

/-- The decode table and the encoder agree on the instruction (R99, R107). -/
def Statement (i : Instr) : Prop :=
  lookup i.opcode = some i.entry ∧ (encode i).length = i.mode.length ∧ i.wf = true

theorem ldaIzx (zp : Byte) : Statement (.ldaIzx zp) :=
  ⟨show lookup 0xA1#8 = some ⟨.lda, .izx, 6⟩ by decide, rfl, show supported .lda .izx = true by decide⟩
theorem ldaZp (zp : Byte) : Statement (.ldaZp zp) :=
  ⟨show lookup 0xA5#8 = some ⟨.lda, .zp, 3⟩ by decide, rfl, show supported .lda .zp = true by decide⟩
theorem ldaImm (v : Byte) : Statement (.ldaImm v) :=
  ⟨show lookup 0xA9#8 = some ⟨.lda, .imm, 2⟩ by decide, rfl, show supported .lda .imm = true by decide⟩
theorem ldaAbs (addr : Addr) : Statement (.ldaAbs addr) :=
  ⟨show lookup 0xAD#8 = some ⟨.lda, .abs, 4⟩ by decide, rfl, show supported .lda .abs = true by decide⟩
theorem ldaIzy (zp : Byte) : Statement (.ldaIzy zp) :=
  ⟨show lookup 0xB1#8 = some ⟨.lda, .izy, 5⟩ by decide, rfl, show supported .lda .izy = true by decide⟩
theorem ldaZpx (zp : Byte) : Statement (.ldaZpx zp) :=
  ⟨show lookup 0xB5#8 = some ⟨.lda, .zpx, 4⟩ by decide, rfl, show supported .lda .zpx = true by decide⟩
theorem ldaAby (base : Addr) : Statement (.ldaAby base) :=
  ⟨show lookup 0xB9#8 = some ⟨.lda, .aby, 4⟩ by decide, rfl, show supported .lda .aby = true by decide⟩
theorem ldaAbx (base : Addr) : Statement (.ldaAbx base) :=
  ⟨show lookup 0xBD#8 = some ⟨.lda, .abx, 4⟩ by decide, rfl, show supported .lda .abx = true by decide⟩
theorem ldxImm (v : Byte) : Statement (.ldxImm v) :=
  ⟨show lookup 0xA2#8 = some ⟨.ldx, .imm, 2⟩ by decide, rfl, show supported .ldx .imm = true by decide⟩
theorem ldxZp (zp : Byte) : Statement (.ldxZp zp) :=
  ⟨show lookup 0xA6#8 = some ⟨.ldx, .zp, 3⟩ by decide, rfl, show supported .ldx .zp = true by decide⟩
theorem ldxAbs (addr : Addr) : Statement (.ldxAbs addr) :=
  ⟨show lookup 0xAE#8 = some ⟨.ldx, .abs, 4⟩ by decide, rfl, show supported .ldx .abs = true by decide⟩
theorem ldxZpy (zp : Byte) : Statement (.ldxZpy zp) :=
  ⟨show lookup 0xB6#8 = some ⟨.ldx, .zpy, 4⟩ by decide, rfl, show supported .ldx .zpy = true by decide⟩
theorem ldxAby (base : Addr) : Statement (.ldxAby base) :=
  ⟨show lookup 0xBE#8 = some ⟨.ldx, .aby, 4⟩ by decide, rfl, show supported .ldx .aby = true by decide⟩
theorem ldyImm (v : Byte) : Statement (.ldyImm v) :=
  ⟨show lookup 0xA0#8 = some ⟨.ldy, .imm, 2⟩ by decide, rfl, show supported .ldy .imm = true by decide⟩
theorem ldyZp (zp : Byte) : Statement (.ldyZp zp) :=
  ⟨show lookup 0xA4#8 = some ⟨.ldy, .zp, 3⟩ by decide, rfl, show supported .ldy .zp = true by decide⟩
theorem ldyAbs (addr : Addr) : Statement (.ldyAbs addr) :=
  ⟨show lookup 0xAC#8 = some ⟨.ldy, .abs, 4⟩ by decide, rfl, show supported .ldy .abs = true by decide⟩
theorem ldyZpx (zp : Byte) : Statement (.ldyZpx zp) :=
  ⟨show lookup 0xB4#8 = some ⟨.ldy, .zpx, 4⟩ by decide, rfl, show supported .ldy .zpx = true by decide⟩
theorem ldyAbx (base : Addr) : Statement (.ldyAbx base) :=
  ⟨show lookup 0xBC#8 = some ⟨.ldy, .abx, 4⟩ by decide, rfl, show supported .ldy .abx = true by decide⟩
theorem staIzx (zp : Byte) : Statement (.staIzx zp) :=
  ⟨show lookup 0x81#8 = some ⟨.sta, .izx, 6⟩ by decide, rfl, show supported .sta .izx = true by decide⟩
theorem staZp (zp : Byte) : Statement (.staZp zp) :=
  ⟨show lookup 0x85#8 = some ⟨.sta, .zp, 3⟩ by decide, rfl, show supported .sta .zp = true by decide⟩
theorem staAbs (addr : Addr) : Statement (.staAbs addr) :=
  ⟨show lookup 0x8D#8 = some ⟨.sta, .abs, 4⟩ by decide, rfl, show supported .sta .abs = true by decide⟩
theorem staIzy (zp : Byte) : Statement (.staIzy zp) :=
  ⟨show lookup 0x91#8 = some ⟨.sta, .izy, 6⟩ by decide, rfl, show supported .sta .izy = true by decide⟩
theorem staZpx (zp : Byte) : Statement (.staZpx zp) :=
  ⟨show lookup 0x95#8 = some ⟨.sta, .zpx, 4⟩ by decide, rfl, show supported .sta .zpx = true by decide⟩
theorem staAby (base : Addr) : Statement (.staAby base) :=
  ⟨show lookup 0x99#8 = some ⟨.sta, .aby, 5⟩ by decide, rfl, show supported .sta .aby = true by decide⟩
theorem staAbx (base : Addr) : Statement (.staAbx base) :=
  ⟨show lookup 0x9D#8 = some ⟨.sta, .abx, 5⟩ by decide, rfl, show supported .sta .abx = true by decide⟩
theorem stxZp (zp : Byte) : Statement (.stxZp zp) :=
  ⟨show lookup 0x86#8 = some ⟨.stx, .zp, 3⟩ by decide, rfl, show supported .stx .zp = true by decide⟩
theorem stxAbs (addr : Addr) : Statement (.stxAbs addr) :=
  ⟨show lookup 0x8E#8 = some ⟨.stx, .abs, 4⟩ by decide, rfl, show supported .stx .abs = true by decide⟩
theorem stxZpy (zp : Byte) : Statement (.stxZpy zp) :=
  ⟨show lookup 0x96#8 = some ⟨.stx, .zpy, 4⟩ by decide, rfl, show supported .stx .zpy = true by decide⟩
theorem styZp (zp : Byte) : Statement (.styZp zp) :=
  ⟨show lookup 0x84#8 = some ⟨.sty, .zp, 3⟩ by decide, rfl, show supported .sty .zp = true by decide⟩
theorem styAbs (addr : Addr) : Statement (.styAbs addr) :=
  ⟨show lookup 0x8C#8 = some ⟨.sty, .abs, 4⟩ by decide, rfl, show supported .sty .abs = true by decide⟩
theorem styZpx (zp : Byte) : Statement (.styZpx zp) :=
  ⟨show lookup 0x94#8 = some ⟨.sty, .zpx, 4⟩ by decide, rfl, show supported .sty .zpx = true by decide⟩
theorem tax : Statement .tax :=
  ⟨show lookup 0xAA#8 = some ⟨.tax, .imp, 2⟩ by decide, rfl, show supported .tax .imp = true by decide⟩
theorem tay : Statement .tay :=
  ⟨show lookup 0xA8#8 = some ⟨.tay, .imp, 2⟩ by decide, rfl, show supported .tay .imp = true by decide⟩
theorem txa : Statement .txa :=
  ⟨show lookup 0x8A#8 = some ⟨.txa, .imp, 2⟩ by decide, rfl, show supported .txa .imp = true by decide⟩
theorem tya : Statement .tya :=
  ⟨show lookup 0x98#8 = some ⟨.tya, .imp, 2⟩ by decide, rfl, show supported .tya .imp = true by decide⟩
theorem tsx : Statement .tsx :=
  ⟨show lookup 0xBA#8 = some ⟨.tsx, .imp, 2⟩ by decide, rfl, show supported .tsx .imp = true by decide⟩
theorem txs : Statement .txs :=
  ⟨show lookup 0x9A#8 = some ⟨.txs, .imp, 2⟩ by decide, rfl, show supported .txs .imp = true by decide⟩
theorem adcIzx (zp : Byte) : Statement (.adcIzx zp) :=
  ⟨show lookup 0x61#8 = some ⟨.adc, .izx, 6⟩ by decide, rfl, show supported .adc .izx = true by decide⟩
theorem adcZp (zp : Byte) : Statement (.adcZp zp) :=
  ⟨show lookup 0x65#8 = some ⟨.adc, .zp, 3⟩ by decide, rfl, show supported .adc .zp = true by decide⟩
theorem adcImm (v : Byte) : Statement (.adcImm v) :=
  ⟨show lookup 0x69#8 = some ⟨.adc, .imm, 2⟩ by decide, rfl, show supported .adc .imm = true by decide⟩
theorem adcAbs (addr : Addr) : Statement (.adcAbs addr) :=
  ⟨show lookup 0x6D#8 = some ⟨.adc, .abs, 4⟩ by decide, rfl, show supported .adc .abs = true by decide⟩
theorem adcIzy (zp : Byte) : Statement (.adcIzy zp) :=
  ⟨show lookup 0x71#8 = some ⟨.adc, .izy, 5⟩ by decide, rfl, show supported .adc .izy = true by decide⟩
theorem adcZpx (zp : Byte) : Statement (.adcZpx zp) :=
  ⟨show lookup 0x75#8 = some ⟨.adc, .zpx, 4⟩ by decide, rfl, show supported .adc .zpx = true by decide⟩
theorem adcAby (base : Addr) : Statement (.adcAby base) :=
  ⟨show lookup 0x79#8 = some ⟨.adc, .aby, 4⟩ by decide, rfl, show supported .adc .aby = true by decide⟩
theorem adcAbx (base : Addr) : Statement (.adcAbx base) :=
  ⟨show lookup 0x7D#8 = some ⟨.adc, .abx, 4⟩ by decide, rfl, show supported .adc .abx = true by decide⟩
theorem sbcIzx (zp : Byte) : Statement (.sbcIzx zp) :=
  ⟨show lookup 0xE1#8 = some ⟨.sbc, .izx, 6⟩ by decide, rfl, show supported .sbc .izx = true by decide⟩
theorem sbcZp (zp : Byte) : Statement (.sbcZp zp) :=
  ⟨show lookup 0xE5#8 = some ⟨.sbc, .zp, 3⟩ by decide, rfl, show supported .sbc .zp = true by decide⟩
theorem sbcImm (v : Byte) : Statement (.sbcImm v) :=
  ⟨show lookup 0xE9#8 = some ⟨.sbc, .imm, 2⟩ by decide, rfl, show supported .sbc .imm = true by decide⟩
theorem sbcAbs (addr : Addr) : Statement (.sbcAbs addr) :=
  ⟨show lookup 0xED#8 = some ⟨.sbc, .abs, 4⟩ by decide, rfl, show supported .sbc .abs = true by decide⟩
theorem sbcIzy (zp : Byte) : Statement (.sbcIzy zp) :=
  ⟨show lookup 0xF1#8 = some ⟨.sbc, .izy, 5⟩ by decide, rfl, show supported .sbc .izy = true by decide⟩
theorem sbcZpx (zp : Byte) : Statement (.sbcZpx zp) :=
  ⟨show lookup 0xF5#8 = some ⟨.sbc, .zpx, 4⟩ by decide, rfl, show supported .sbc .zpx = true by decide⟩
theorem sbcAby (base : Addr) : Statement (.sbcAby base) :=
  ⟨show lookup 0xF9#8 = some ⟨.sbc, .aby, 4⟩ by decide, rfl, show supported .sbc .aby = true by decide⟩
theorem sbcAbx (base : Addr) : Statement (.sbcAbx base) :=
  ⟨show lookup 0xFD#8 = some ⟨.sbc, .abx, 4⟩ by decide, rfl, show supported .sbc .abx = true by decide⟩
theorem andIzx (zp : Byte) : Statement (.andIzx zp) :=
  ⟨show lookup 0x21#8 = some ⟨.and, .izx, 6⟩ by decide, rfl, show supported .and .izx = true by decide⟩
theorem andZp (zp : Byte) : Statement (.andZp zp) :=
  ⟨show lookup 0x25#8 = some ⟨.and, .zp, 3⟩ by decide, rfl, show supported .and .zp = true by decide⟩
theorem andImm (v : Byte) : Statement (.andImm v) :=
  ⟨show lookup 0x29#8 = some ⟨.and, .imm, 2⟩ by decide, rfl, show supported .and .imm = true by decide⟩
theorem andAbs (addr : Addr) : Statement (.andAbs addr) :=
  ⟨show lookup 0x2D#8 = some ⟨.and, .abs, 4⟩ by decide, rfl, show supported .and .abs = true by decide⟩
theorem andIzy (zp : Byte) : Statement (.andIzy zp) :=
  ⟨show lookup 0x31#8 = some ⟨.and, .izy, 5⟩ by decide, rfl, show supported .and .izy = true by decide⟩
theorem andZpx (zp : Byte) : Statement (.andZpx zp) :=
  ⟨show lookup 0x35#8 = some ⟨.and, .zpx, 4⟩ by decide, rfl, show supported .and .zpx = true by decide⟩
theorem andAby (base : Addr) : Statement (.andAby base) :=
  ⟨show lookup 0x39#8 = some ⟨.and, .aby, 4⟩ by decide, rfl, show supported .and .aby = true by decide⟩
theorem andAbx (base : Addr) : Statement (.andAbx base) :=
  ⟨show lookup 0x3D#8 = some ⟨.and, .abx, 4⟩ by decide, rfl, show supported .and .abx = true by decide⟩
theorem oraIzx (zp : Byte) : Statement (.oraIzx zp) :=
  ⟨show lookup 0x01#8 = some ⟨.ora, .izx, 6⟩ by decide, rfl, show supported .ora .izx = true by decide⟩
theorem oraZp (zp : Byte) : Statement (.oraZp zp) :=
  ⟨show lookup 0x05#8 = some ⟨.ora, .zp, 3⟩ by decide, rfl, show supported .ora .zp = true by decide⟩
theorem oraImm (v : Byte) : Statement (.oraImm v) :=
  ⟨show lookup 0x09#8 = some ⟨.ora, .imm, 2⟩ by decide, rfl, show supported .ora .imm = true by decide⟩
theorem oraAbs (addr : Addr) : Statement (.oraAbs addr) :=
  ⟨show lookup 0x0D#8 = some ⟨.ora, .abs, 4⟩ by decide, rfl, show supported .ora .abs = true by decide⟩
theorem oraIzy (zp : Byte) : Statement (.oraIzy zp) :=
  ⟨show lookup 0x11#8 = some ⟨.ora, .izy, 5⟩ by decide, rfl, show supported .ora .izy = true by decide⟩
theorem oraZpx (zp : Byte) : Statement (.oraZpx zp) :=
  ⟨show lookup 0x15#8 = some ⟨.ora, .zpx, 4⟩ by decide, rfl, show supported .ora .zpx = true by decide⟩
theorem oraAby (base : Addr) : Statement (.oraAby base) :=
  ⟨show lookup 0x19#8 = some ⟨.ora, .aby, 4⟩ by decide, rfl, show supported .ora .aby = true by decide⟩
theorem oraAbx (base : Addr) : Statement (.oraAbx base) :=
  ⟨show lookup 0x1D#8 = some ⟨.ora, .abx, 4⟩ by decide, rfl, show supported .ora .abx = true by decide⟩
theorem eorIzx (zp : Byte) : Statement (.eorIzx zp) :=
  ⟨show lookup 0x41#8 = some ⟨.eor, .izx, 6⟩ by decide, rfl, show supported .eor .izx = true by decide⟩
theorem eorZp (zp : Byte) : Statement (.eorZp zp) :=
  ⟨show lookup 0x45#8 = some ⟨.eor, .zp, 3⟩ by decide, rfl, show supported .eor .zp = true by decide⟩
theorem eorImm (v : Byte) : Statement (.eorImm v) :=
  ⟨show lookup 0x49#8 = some ⟨.eor, .imm, 2⟩ by decide, rfl, show supported .eor .imm = true by decide⟩
theorem eorAbs (addr : Addr) : Statement (.eorAbs addr) :=
  ⟨show lookup 0x4D#8 = some ⟨.eor, .abs, 4⟩ by decide, rfl, show supported .eor .abs = true by decide⟩
theorem eorIzy (zp : Byte) : Statement (.eorIzy zp) :=
  ⟨show lookup 0x51#8 = some ⟨.eor, .izy, 5⟩ by decide, rfl, show supported .eor .izy = true by decide⟩
theorem eorZpx (zp : Byte) : Statement (.eorZpx zp) :=
  ⟨show lookup 0x55#8 = some ⟨.eor, .zpx, 4⟩ by decide, rfl, show supported .eor .zpx = true by decide⟩
theorem eorAby (base : Addr) : Statement (.eorAby base) :=
  ⟨show lookup 0x59#8 = some ⟨.eor, .aby, 4⟩ by decide, rfl, show supported .eor .aby = true by decide⟩
theorem eorAbx (base : Addr) : Statement (.eorAbx base) :=
  ⟨show lookup 0x5D#8 = some ⟨.eor, .abx, 4⟩ by decide, rfl, show supported .eor .abx = true by decide⟩
theorem bitZp (zp : Byte) : Statement (.bitZp zp) :=
  ⟨show lookup 0x24#8 = some ⟨.bit, .zp, 3⟩ by decide, rfl, show supported .bit .zp = true by decide⟩
theorem bitAbs (addr : Addr) : Statement (.bitAbs addr) :=
  ⟨show lookup 0x2C#8 = some ⟨.bit, .abs, 4⟩ by decide, rfl, show supported .bit .abs = true by decide⟩
theorem cmpIzx (zp : Byte) : Statement (.cmpIzx zp) :=
  ⟨show lookup 0xC1#8 = some ⟨.cmp, .izx, 6⟩ by decide, rfl, show supported .cmp .izx = true by decide⟩
theorem cmpZp (zp : Byte) : Statement (.cmpZp zp) :=
  ⟨show lookup 0xC5#8 = some ⟨.cmp, .zp, 3⟩ by decide, rfl, show supported .cmp .zp = true by decide⟩
theorem cmpImm (v : Byte) : Statement (.cmpImm v) :=
  ⟨show lookup 0xC9#8 = some ⟨.cmp, .imm, 2⟩ by decide, rfl, show supported .cmp .imm = true by decide⟩
theorem cmpAbs (addr : Addr) : Statement (.cmpAbs addr) :=
  ⟨show lookup 0xCD#8 = some ⟨.cmp, .abs, 4⟩ by decide, rfl, show supported .cmp .abs = true by decide⟩
theorem cmpIzy (zp : Byte) : Statement (.cmpIzy zp) :=
  ⟨show lookup 0xD1#8 = some ⟨.cmp, .izy, 5⟩ by decide, rfl, show supported .cmp .izy = true by decide⟩
theorem cmpZpx (zp : Byte) : Statement (.cmpZpx zp) :=
  ⟨show lookup 0xD5#8 = some ⟨.cmp, .zpx, 4⟩ by decide, rfl, show supported .cmp .zpx = true by decide⟩
theorem cmpAby (base : Addr) : Statement (.cmpAby base) :=
  ⟨show lookup 0xD9#8 = some ⟨.cmp, .aby, 4⟩ by decide, rfl, show supported .cmp .aby = true by decide⟩
theorem cmpAbx (base : Addr) : Statement (.cmpAbx base) :=
  ⟨show lookup 0xDD#8 = some ⟨.cmp, .abx, 4⟩ by decide, rfl, show supported .cmp .abx = true by decide⟩
theorem cpxImm (v : Byte) : Statement (.cpxImm v) :=
  ⟨show lookup 0xE0#8 = some ⟨.cpx, .imm, 2⟩ by decide, rfl, show supported .cpx .imm = true by decide⟩
theorem cpxZp (zp : Byte) : Statement (.cpxZp zp) :=
  ⟨show lookup 0xE4#8 = some ⟨.cpx, .zp, 3⟩ by decide, rfl, show supported .cpx .zp = true by decide⟩
theorem cpxAbs (addr : Addr) : Statement (.cpxAbs addr) :=
  ⟨show lookup 0xEC#8 = some ⟨.cpx, .abs, 4⟩ by decide, rfl, show supported .cpx .abs = true by decide⟩
theorem cpyImm (v : Byte) : Statement (.cpyImm v) :=
  ⟨show lookup 0xC0#8 = some ⟨.cpy, .imm, 2⟩ by decide, rfl, show supported .cpy .imm = true by decide⟩
theorem cpyZp (zp : Byte) : Statement (.cpyZp zp) :=
  ⟨show lookup 0xC4#8 = some ⟨.cpy, .zp, 3⟩ by decide, rfl, show supported .cpy .zp = true by decide⟩
theorem cpyAbs (addr : Addr) : Statement (.cpyAbs addr) :=
  ⟨show lookup 0xCC#8 = some ⟨.cpy, .abs, 4⟩ by decide, rfl, show supported .cpy .abs = true by decide⟩
theorem incZp (zp : Byte) : Statement (.incZp zp) :=
  ⟨show lookup 0xE6#8 = some ⟨.inc, .zp, 5⟩ by decide, rfl, show supported .inc .zp = true by decide⟩
theorem incAbs (addr : Addr) : Statement (.incAbs addr) :=
  ⟨show lookup 0xEE#8 = some ⟨.inc, .abs, 6⟩ by decide, rfl, show supported .inc .abs = true by decide⟩
theorem incZpx (zp : Byte) : Statement (.incZpx zp) :=
  ⟨show lookup 0xF6#8 = some ⟨.inc, .zpx, 6⟩ by decide, rfl, show supported .inc .zpx = true by decide⟩
theorem incAbx (base : Addr) : Statement (.incAbx base) :=
  ⟨show lookup 0xFE#8 = some ⟨.inc, .abx, 7⟩ by decide, rfl, show supported .inc .abx = true by decide⟩
theorem decZp (zp : Byte) : Statement (.decZp zp) :=
  ⟨show lookup 0xC6#8 = some ⟨.dec, .zp, 5⟩ by decide, rfl, show supported .dec .zp = true by decide⟩
theorem decAbs (addr : Addr) : Statement (.decAbs addr) :=
  ⟨show lookup 0xCE#8 = some ⟨.dec, .abs, 6⟩ by decide, rfl, show supported .dec .abs = true by decide⟩
theorem decZpx (zp : Byte) : Statement (.decZpx zp) :=
  ⟨show lookup 0xD6#8 = some ⟨.dec, .zpx, 6⟩ by decide, rfl, show supported .dec .zpx = true by decide⟩
theorem decAbx (base : Addr) : Statement (.decAbx base) :=
  ⟨show lookup 0xDE#8 = some ⟨.dec, .abx, 7⟩ by decide, rfl, show supported .dec .abx = true by decide⟩
theorem inx : Statement .inx :=
  ⟨show lookup 0xE8#8 = some ⟨.inx, .imp, 2⟩ by decide, rfl, show supported .inx .imp = true by decide⟩
theorem iny : Statement .iny :=
  ⟨show lookup 0xC8#8 = some ⟨.iny, .imp, 2⟩ by decide, rfl, show supported .iny .imp = true by decide⟩
theorem dex : Statement .dex :=
  ⟨show lookup 0xCA#8 = some ⟨.dex, .imp, 2⟩ by decide, rfl, show supported .dex .imp = true by decide⟩
theorem dey : Statement .dey :=
  ⟨show lookup 0x88#8 = some ⟨.dey, .imp, 2⟩ by decide, rfl, show supported .dey .imp = true by decide⟩
theorem aslZp (zp : Byte) : Statement (.aslZp zp) :=
  ⟨show lookup 0x06#8 = some ⟨.asl, .zp, 5⟩ by decide, rfl, show supported .asl .zp = true by decide⟩
theorem aslAcc : Statement .aslAcc :=
  ⟨show lookup 0x0A#8 = some ⟨.asl, .acc, 2⟩ by decide, rfl, show supported .asl .acc = true by decide⟩
theorem aslAbs (addr : Addr) : Statement (.aslAbs addr) :=
  ⟨show lookup 0x0E#8 = some ⟨.asl, .abs, 6⟩ by decide, rfl, show supported .asl .abs = true by decide⟩
theorem aslZpx (zp : Byte) : Statement (.aslZpx zp) :=
  ⟨show lookup 0x16#8 = some ⟨.asl, .zpx, 6⟩ by decide, rfl, show supported .asl .zpx = true by decide⟩
theorem aslAbx (base : Addr) : Statement (.aslAbx base) :=
  ⟨show lookup 0x1E#8 = some ⟨.asl, .abx, 7⟩ by decide, rfl, show supported .asl .abx = true by decide⟩
theorem lsrZp (zp : Byte) : Statement (.lsrZp zp) :=
  ⟨show lookup 0x46#8 = some ⟨.lsr, .zp, 5⟩ by decide, rfl, show supported .lsr .zp = true by decide⟩
theorem lsrAcc : Statement .lsrAcc :=
  ⟨show lookup 0x4A#8 = some ⟨.lsr, .acc, 2⟩ by decide, rfl, show supported .lsr .acc = true by decide⟩
theorem lsrAbs (addr : Addr) : Statement (.lsrAbs addr) :=
  ⟨show lookup 0x4E#8 = some ⟨.lsr, .abs, 6⟩ by decide, rfl, show supported .lsr .abs = true by decide⟩
theorem lsrZpx (zp : Byte) : Statement (.lsrZpx zp) :=
  ⟨show lookup 0x56#8 = some ⟨.lsr, .zpx, 6⟩ by decide, rfl, show supported .lsr .zpx = true by decide⟩
theorem lsrAbx (base : Addr) : Statement (.lsrAbx base) :=
  ⟨show lookup 0x5E#8 = some ⟨.lsr, .abx, 7⟩ by decide, rfl, show supported .lsr .abx = true by decide⟩
theorem rolZp (zp : Byte) : Statement (.rolZp zp) :=
  ⟨show lookup 0x26#8 = some ⟨.rol, .zp, 5⟩ by decide, rfl, show supported .rol .zp = true by decide⟩
theorem rolAcc : Statement .rolAcc :=
  ⟨show lookup 0x2A#8 = some ⟨.rol, .acc, 2⟩ by decide, rfl, show supported .rol .acc = true by decide⟩
theorem rolAbs (addr : Addr) : Statement (.rolAbs addr) :=
  ⟨show lookup 0x2E#8 = some ⟨.rol, .abs, 6⟩ by decide, rfl, show supported .rol .abs = true by decide⟩
theorem rolZpx (zp : Byte) : Statement (.rolZpx zp) :=
  ⟨show lookup 0x36#8 = some ⟨.rol, .zpx, 6⟩ by decide, rfl, show supported .rol .zpx = true by decide⟩
theorem rolAbx (base : Addr) : Statement (.rolAbx base) :=
  ⟨show lookup 0x3E#8 = some ⟨.rol, .abx, 7⟩ by decide, rfl, show supported .rol .abx = true by decide⟩
theorem rorZp (zp : Byte) : Statement (.rorZp zp) :=
  ⟨show lookup 0x66#8 = some ⟨.ror, .zp, 5⟩ by decide, rfl, show supported .ror .zp = true by decide⟩
theorem rorAcc : Statement .rorAcc :=
  ⟨show lookup 0x6A#8 = some ⟨.ror, .acc, 2⟩ by decide, rfl, show supported .ror .acc = true by decide⟩
theorem rorAbs (addr : Addr) : Statement (.rorAbs addr) :=
  ⟨show lookup 0x6E#8 = some ⟨.ror, .abs, 6⟩ by decide, rfl, show supported .ror .abs = true by decide⟩
theorem rorZpx (zp : Byte) : Statement (.rorZpx zp) :=
  ⟨show lookup 0x76#8 = some ⟨.ror, .zpx, 6⟩ by decide, rfl, show supported .ror .zpx = true by decide⟩
theorem rorAbx (base : Addr) : Statement (.rorAbx base) :=
  ⟨show lookup 0x7E#8 = some ⟨.ror, .abx, 7⟩ by decide, rfl, show supported .ror .abx = true by decide⟩
theorem pha : Statement .pha :=
  ⟨show lookup 0x48#8 = some ⟨.pha, .imp, 3⟩ by decide, rfl, show supported .pha .imp = true by decide⟩
theorem php : Statement .php :=
  ⟨show lookup 0x08#8 = some ⟨.php, .imp, 3⟩ by decide, rfl, show supported .php .imp = true by decide⟩
theorem pla : Statement .pla :=
  ⟨show lookup 0x68#8 = some ⟨.pla, .imp, 4⟩ by decide, rfl, show supported .pla .imp = true by decide⟩
theorem plp : Statement .plp :=
  ⟨show lookup 0x28#8 = some ⟨.plp, .imp, 4⟩ by decide, rfl, show supported .plp .imp = true by decide⟩
theorem bcc (offset : Byte) : Statement (.bcc offset) :=
  ⟨show lookup 0x90#8 = some ⟨.bcc, .rel, 2⟩ by decide, rfl, show supported .bcc .rel = true by decide⟩
theorem bcs (offset : Byte) : Statement (.bcs offset) :=
  ⟨show lookup 0xB0#8 = some ⟨.bcs, .rel, 2⟩ by decide, rfl, show supported .bcs .rel = true by decide⟩
theorem beq (offset : Byte) : Statement (.beq offset) :=
  ⟨show lookup 0xF0#8 = some ⟨.beq, .rel, 2⟩ by decide, rfl, show supported .beq .rel = true by decide⟩
theorem bne (offset : Byte) : Statement (.bne offset) :=
  ⟨show lookup 0xD0#8 = some ⟨.bne, .rel, 2⟩ by decide, rfl, show supported .bne .rel = true by decide⟩
theorem bmi (offset : Byte) : Statement (.bmi offset) :=
  ⟨show lookup 0x30#8 = some ⟨.bmi, .rel, 2⟩ by decide, rfl, show supported .bmi .rel = true by decide⟩
theorem bpl (offset : Byte) : Statement (.bpl offset) :=
  ⟨show lookup 0x10#8 = some ⟨.bpl, .rel, 2⟩ by decide, rfl, show supported .bpl .rel = true by decide⟩
theorem bvc (offset : Byte) : Statement (.bvc offset) :=
  ⟨show lookup 0x50#8 = some ⟨.bvc, .rel, 2⟩ by decide, rfl, show supported .bvc .rel = true by decide⟩
theorem bvs (offset : Byte) : Statement (.bvs offset) :=
  ⟨show lookup 0x70#8 = some ⟨.bvs, .rel, 2⟩ by decide, rfl, show supported .bvs .rel = true by decide⟩
theorem jmpAbs (target : Addr) : Statement (.jmpAbs target) :=
  ⟨show lookup 0x4C#8 = some ⟨.jmp, .abs, 3⟩ by decide, rfl, show supported .jmp .abs = true by decide⟩
theorem jmpInd (ptr : Addr) : Statement (.jmpInd ptr) :=
  ⟨show lookup 0x6C#8 = some ⟨.jmp, .ind, 5⟩ by decide, rfl, show supported .jmp .ind = true by decide⟩
theorem jsr (target : Addr) : Statement (.jsr target) :=
  ⟨show lookup 0x20#8 = some ⟨.jsr, .abs, 6⟩ by decide, rfl, show supported .jsr .abs = true by decide⟩
theorem rts : Statement .rts :=
  ⟨show lookup 0x60#8 = some ⟨.rts, .imp, 6⟩ by decide, rfl, show supported .rts .imp = true by decide⟩
theorem clc : Statement .clc :=
  ⟨show lookup 0x18#8 = some ⟨.clc, .imp, 2⟩ by decide, rfl, show supported .clc .imp = true by decide⟩
theorem cld : Statement .cld :=
  ⟨show lookup 0xD8#8 = some ⟨.cld, .imp, 2⟩ by decide, rfl, show supported .cld .imp = true by decide⟩
theorem cli : Statement .cli :=
  ⟨show lookup 0x58#8 = some ⟨.cli, .imp, 2⟩ by decide, rfl, show supported .cli .imp = true by decide⟩
theorem clv : Statement .clv :=
  ⟨show lookup 0xB8#8 = some ⟨.clv, .imp, 2⟩ by decide, rfl, show supported .clv .imp = true by decide⟩
theorem sec : Statement .sec :=
  ⟨show lookup 0x38#8 = some ⟨.sec, .imp, 2⟩ by decide, rfl, show supported .sec .imp = true by decide⟩
theorem sed : Statement .sed :=
  ⟨show lookup 0xF8#8 = some ⟨.sed, .imp, 2⟩ by decide, rfl, show supported .sed .imp = true by decide⟩
theorem sei : Statement .sei :=
  ⟨show lookup 0x78#8 = some ⟨.sei, .imp, 2⟩ by decide, rfl, show supported .sei .imp = true by decide⟩
theorem nop : Statement .nop :=
  ⟨show lookup 0xEA#8 = some ⟨.nop, .imp, 2⟩ by decide, rfl, show supported .nop .imp = true by decide⟩
theorem brk : Statement .brk :=
  ⟨show lookup 0x00#8 = some ⟨.brk, .imp, 7⟩ by decide, rfl, show supported .brk .imp = true by decide⟩
theorem rti : Statement .rti :=
  ⟨show lookup 0x40#8 = some ⟨.rti, .imp, 6⟩ by decide, rfl, show supported .rti .imp = true by decide⟩

end Sys2Proof.Laws.TableRow
end

