-- ==== Sys2Proof/Laws/Encode.lean ====
section
/-! SUPPORT. The decode table and the encoder agree on every instruction; the decoder's assembly inverts the encoder's
operands. -/

namespace Sys2Proof

open Sys2Proof.Machine

/-- The table row of every instruction (R99, R107). -/
theorem tableRow (i : Instr) : Laws.TableRow.Statement i := by
  cases i with
  | brk => exact Laws.TableRow.brk
  | oraIzx x => exact Laws.TableRow.oraIzx x
  | oraZp x => exact Laws.TableRow.oraZp x
  | aslZp x => exact Laws.TableRow.aslZp x
  | php => exact Laws.TableRow.php
  | oraImm x => exact Laws.TableRow.oraImm x
  | aslAcc => exact Laws.TableRow.aslAcc
  | oraAbs x => exact Laws.TableRow.oraAbs x
  | aslAbs x => exact Laws.TableRow.aslAbs x
  | bpl x => exact Laws.TableRow.bpl x
  | oraIzy x => exact Laws.TableRow.oraIzy x
  | oraZpx x => exact Laws.TableRow.oraZpx x
  | aslZpx x => exact Laws.TableRow.aslZpx x
  | clc => exact Laws.TableRow.clc
  | oraAby x => exact Laws.TableRow.oraAby x
  | oraAbx x => exact Laws.TableRow.oraAbx x
  | aslAbx x => exact Laws.TableRow.aslAbx x
  | jsr x => exact Laws.TableRow.jsr x
  | andIzx x => exact Laws.TableRow.andIzx x
  | bitZp x => exact Laws.TableRow.bitZp x
  | andZp x => exact Laws.TableRow.andZp x
  | rolZp x => exact Laws.TableRow.rolZp x
  | plp => exact Laws.TableRow.plp
  | andImm x => exact Laws.TableRow.andImm x
  | rolAcc => exact Laws.TableRow.rolAcc
  | bitAbs x => exact Laws.TableRow.bitAbs x
  | andAbs x => exact Laws.TableRow.andAbs x
  | rolAbs x => exact Laws.TableRow.rolAbs x
  | bmi x => exact Laws.TableRow.bmi x
  | andIzy x => exact Laws.TableRow.andIzy x
  | andZpx x => exact Laws.TableRow.andZpx x
  | rolZpx x => exact Laws.TableRow.rolZpx x
  | sec => exact Laws.TableRow.sec
  | andAby x => exact Laws.TableRow.andAby x
  | andAbx x => exact Laws.TableRow.andAbx x
  | rolAbx x => exact Laws.TableRow.rolAbx x
  | rti => exact Laws.TableRow.rti
  | eorIzx x => exact Laws.TableRow.eorIzx x
  | eorZp x => exact Laws.TableRow.eorZp x
  | lsrZp x => exact Laws.TableRow.lsrZp x
  | pha => exact Laws.TableRow.pha
  | eorImm x => exact Laws.TableRow.eorImm x
  | lsrAcc => exact Laws.TableRow.lsrAcc
  | jmpAbs x => exact Laws.TableRow.jmpAbs x
  | eorAbs x => exact Laws.TableRow.eorAbs x
  | lsrAbs x => exact Laws.TableRow.lsrAbs x
  | bvc x => exact Laws.TableRow.bvc x
  | eorIzy x => exact Laws.TableRow.eorIzy x
  | eorZpx x => exact Laws.TableRow.eorZpx x
  | lsrZpx x => exact Laws.TableRow.lsrZpx x
  | cli => exact Laws.TableRow.cli
  | eorAby x => exact Laws.TableRow.eorAby x
  | eorAbx x => exact Laws.TableRow.eorAbx x
  | lsrAbx x => exact Laws.TableRow.lsrAbx x
  | rts => exact Laws.TableRow.rts
  | adcIzx x => exact Laws.TableRow.adcIzx x
  | adcZp x => exact Laws.TableRow.adcZp x
  | rorZp x => exact Laws.TableRow.rorZp x
  | pla => exact Laws.TableRow.pla
  | adcImm x => exact Laws.TableRow.adcImm x
  | rorAcc => exact Laws.TableRow.rorAcc
  | jmpInd x => exact Laws.TableRow.jmpInd x
  | adcAbs x => exact Laws.TableRow.adcAbs x
  | rorAbs x => exact Laws.TableRow.rorAbs x
  | bvs x => exact Laws.TableRow.bvs x
  | adcIzy x => exact Laws.TableRow.adcIzy x
  | adcZpx x => exact Laws.TableRow.adcZpx x
  | rorZpx x => exact Laws.TableRow.rorZpx x
  | sei => exact Laws.TableRow.sei
  | adcAby x => exact Laws.TableRow.adcAby x
  | adcAbx x => exact Laws.TableRow.adcAbx x
  | rorAbx x => exact Laws.TableRow.rorAbx x
  | staIzx x => exact Laws.TableRow.staIzx x
  | styZp x => exact Laws.TableRow.styZp x
  | staZp x => exact Laws.TableRow.staZp x
  | stxZp x => exact Laws.TableRow.stxZp x
  | dey => exact Laws.TableRow.dey
  | txa => exact Laws.TableRow.txa
  | styAbs x => exact Laws.TableRow.styAbs x
  | staAbs x => exact Laws.TableRow.staAbs x
  | stxAbs x => exact Laws.TableRow.stxAbs x
  | bcc x => exact Laws.TableRow.bcc x
  | staIzy x => exact Laws.TableRow.staIzy x
  | styZpx x => exact Laws.TableRow.styZpx x
  | staZpx x => exact Laws.TableRow.staZpx x
  | stxZpy x => exact Laws.TableRow.stxZpy x
  | tya => exact Laws.TableRow.tya
  | staAby x => exact Laws.TableRow.staAby x
  | txs => exact Laws.TableRow.txs
  | staAbx x => exact Laws.TableRow.staAbx x
  | ldyImm x => exact Laws.TableRow.ldyImm x
  | ldaIzx x => exact Laws.TableRow.ldaIzx x
  | ldxImm x => exact Laws.TableRow.ldxImm x
  | ldyZp x => exact Laws.TableRow.ldyZp x
  | ldaZp x => exact Laws.TableRow.ldaZp x
  | ldxZp x => exact Laws.TableRow.ldxZp x
  | tay => exact Laws.TableRow.tay
  | ldaImm x => exact Laws.TableRow.ldaImm x
  | tax => exact Laws.TableRow.tax
  | ldyAbs x => exact Laws.TableRow.ldyAbs x
  | ldaAbs x => exact Laws.TableRow.ldaAbs x
  | ldxAbs x => exact Laws.TableRow.ldxAbs x
  | bcs x => exact Laws.TableRow.bcs x
  | ldaIzy x => exact Laws.TableRow.ldaIzy x
  | ldyZpx x => exact Laws.TableRow.ldyZpx x
  | ldaZpx x => exact Laws.TableRow.ldaZpx x
  | ldxZpy x => exact Laws.TableRow.ldxZpy x
  | clv => exact Laws.TableRow.clv
  | ldaAby x => exact Laws.TableRow.ldaAby x
  | tsx => exact Laws.TableRow.tsx
  | ldyAbx x => exact Laws.TableRow.ldyAbx x
  | ldaAbx x => exact Laws.TableRow.ldaAbx x
  | ldxAby x => exact Laws.TableRow.ldxAby x
  | cpyImm x => exact Laws.TableRow.cpyImm x
  | cmpIzx x => exact Laws.TableRow.cmpIzx x
  | cpyZp x => exact Laws.TableRow.cpyZp x
  | cmpZp x => exact Laws.TableRow.cmpZp x
  | decZp x => exact Laws.TableRow.decZp x
  | iny => exact Laws.TableRow.iny
  | cmpImm x => exact Laws.TableRow.cmpImm x
  | dex => exact Laws.TableRow.dex
  | cpyAbs x => exact Laws.TableRow.cpyAbs x
  | cmpAbs x => exact Laws.TableRow.cmpAbs x
  | decAbs x => exact Laws.TableRow.decAbs x
  | bne x => exact Laws.TableRow.bne x
  | cmpIzy x => exact Laws.TableRow.cmpIzy x
  | cmpZpx x => exact Laws.TableRow.cmpZpx x
  | decZpx x => exact Laws.TableRow.decZpx x
  | cld => exact Laws.TableRow.cld
  | cmpAby x => exact Laws.TableRow.cmpAby x
  | cmpAbx x => exact Laws.TableRow.cmpAbx x
  | decAbx x => exact Laws.TableRow.decAbx x
  | cpxImm x => exact Laws.TableRow.cpxImm x
  | sbcIzx x => exact Laws.TableRow.sbcIzx x
  | cpxZp x => exact Laws.TableRow.cpxZp x
  | sbcZp x => exact Laws.TableRow.sbcZp x
  | incZp x => exact Laws.TableRow.incZp x
  | inx => exact Laws.TableRow.inx
  | sbcImm x => exact Laws.TableRow.sbcImm x
  | nop => exact Laws.TableRow.nop
  | cpxAbs x => exact Laws.TableRow.cpxAbs x
  | sbcAbs x => exact Laws.TableRow.sbcAbs x
  | incAbs x => exact Laws.TableRow.incAbs x
  | beq x => exact Laws.TableRow.beq x
  | sbcIzy x => exact Laws.TableRow.sbcIzy x
  | sbcZpx x => exact Laws.TableRow.sbcZpx x
  | incZpx x => exact Laws.TableRow.incZpx x
  | sed => exact Laws.TableRow.sed
  | sbcAby x => exact Laws.TableRow.sbcAby x
  | sbcAbx x => exact Laws.TableRow.sbcAbx x
  | incAbx x => exact Laws.TableRow.incAbx x

theorem lookup_opcode (i : Instr) : lookup i.opcode = some i.entry := (tableRow i).1

theorem wf_instr (i : Instr) : i.wf = true := (tableRow i).2.2

theorem operands_length (i : Instr) : i.operands.length + 1 = i.mode.length := (tableRow i).2.1

/-- The decoder assembles an instruction from its own operand bytes, whatever follows them. -/
theorem assemble_operands (i : Instr) (rest : List Byte) :
    assemble i.mnemonic i.mode ((i.operands ++ rest)[0]?.getD 0) ((i.operands ++ rest)[1]?.getD 0) = some i := by
  cases i with
  | brk => rfl
  | oraIzx x => rfl
  | oraZp x => rfl
  | aslZp x => rfl
  | php => rfl
  | oraImm x => rfl
  | aslAcc => rfl
  | oraAbs x => exact congrArg (fun a => some (Instr.oraAbs a)) (w16_hi_lo x)
  | aslAbs x => exact congrArg (fun a => some (Instr.aslAbs a)) (w16_hi_lo x)
  | bpl x => rfl
  | oraIzy x => rfl
  | oraZpx x => rfl
  | aslZpx x => rfl
  | clc => rfl
  | oraAby x => exact congrArg (fun a => some (Instr.oraAby a)) (w16_hi_lo x)
  | oraAbx x => exact congrArg (fun a => some (Instr.oraAbx a)) (w16_hi_lo x)
  | aslAbx x => exact congrArg (fun a => some (Instr.aslAbx a)) (w16_hi_lo x)
  | jsr x => exact congrArg (fun a => some (Instr.jsr a)) (w16_hi_lo x)
  | andIzx x => rfl
  | bitZp x => rfl
  | andZp x => rfl
  | rolZp x => rfl
  | plp => rfl
  | andImm x => rfl
  | rolAcc => rfl
  | bitAbs x => exact congrArg (fun a => some (Instr.bitAbs a)) (w16_hi_lo x)
  | andAbs x => exact congrArg (fun a => some (Instr.andAbs a)) (w16_hi_lo x)
  | rolAbs x => exact congrArg (fun a => some (Instr.rolAbs a)) (w16_hi_lo x)
  | bmi x => rfl
  | andIzy x => rfl
  | andZpx x => rfl
  | rolZpx x => rfl
  | sec => rfl
  | andAby x => exact congrArg (fun a => some (Instr.andAby a)) (w16_hi_lo x)
  | andAbx x => exact congrArg (fun a => some (Instr.andAbx a)) (w16_hi_lo x)
  | rolAbx x => exact congrArg (fun a => some (Instr.rolAbx a)) (w16_hi_lo x)
  | rti => rfl
  | eorIzx x => rfl
  | eorZp x => rfl
  | lsrZp x => rfl
  | pha => rfl
  | eorImm x => rfl
  | lsrAcc => rfl
  | jmpAbs x => exact congrArg (fun a => some (Instr.jmpAbs a)) (w16_hi_lo x)
  | eorAbs x => exact congrArg (fun a => some (Instr.eorAbs a)) (w16_hi_lo x)
  | lsrAbs x => exact congrArg (fun a => some (Instr.lsrAbs a)) (w16_hi_lo x)
  | bvc x => rfl
  | eorIzy x => rfl
  | eorZpx x => rfl
  | lsrZpx x => rfl
  | cli => rfl
  | eorAby x => exact congrArg (fun a => some (Instr.eorAby a)) (w16_hi_lo x)
  | eorAbx x => exact congrArg (fun a => some (Instr.eorAbx a)) (w16_hi_lo x)
  | lsrAbx x => exact congrArg (fun a => some (Instr.lsrAbx a)) (w16_hi_lo x)
  | rts => rfl
  | adcIzx x => rfl
  | adcZp x => rfl
  | rorZp x => rfl
  | pla => rfl
  | adcImm x => rfl
  | rorAcc => rfl
  | jmpInd x => exact congrArg (fun a => some (Instr.jmpInd a)) (w16_hi_lo x)
  | adcAbs x => exact congrArg (fun a => some (Instr.adcAbs a)) (w16_hi_lo x)
  | rorAbs x => exact congrArg (fun a => some (Instr.rorAbs a)) (w16_hi_lo x)
  | bvs x => rfl
  | adcIzy x => rfl
  | adcZpx x => rfl
  | rorZpx x => rfl
  | sei => rfl
  | adcAby x => exact congrArg (fun a => some (Instr.adcAby a)) (w16_hi_lo x)
  | adcAbx x => exact congrArg (fun a => some (Instr.adcAbx a)) (w16_hi_lo x)
  | rorAbx x => exact congrArg (fun a => some (Instr.rorAbx a)) (w16_hi_lo x)
  | staIzx x => rfl
  | styZp x => rfl
  | staZp x => rfl
  | stxZp x => rfl
  | dey => rfl
  | txa => rfl
  | styAbs x => exact congrArg (fun a => some (Instr.styAbs a)) (w16_hi_lo x)
  | staAbs x => exact congrArg (fun a => some (Instr.staAbs a)) (w16_hi_lo x)
  | stxAbs x => exact congrArg (fun a => some (Instr.stxAbs a)) (w16_hi_lo x)
  | bcc x => rfl
  | staIzy x => rfl
  | styZpx x => rfl
  | staZpx x => rfl
  | stxZpy x => rfl
  | tya => rfl
  | staAby x => exact congrArg (fun a => some (Instr.staAby a)) (w16_hi_lo x)
  | txs => rfl
  | staAbx x => exact congrArg (fun a => some (Instr.staAbx a)) (w16_hi_lo x)
  | ldyImm x => rfl
  | ldaIzx x => rfl
  | ldxImm x => rfl
  | ldyZp x => rfl
  | ldaZp x => rfl
  | ldxZp x => rfl
  | tay => rfl
  | ldaImm x => rfl
  | tax => rfl
  | ldyAbs x => exact congrArg (fun a => some (Instr.ldyAbs a)) (w16_hi_lo x)
  | ldaAbs x => exact congrArg (fun a => some (Instr.ldaAbs a)) (w16_hi_lo x)
  | ldxAbs x => exact congrArg (fun a => some (Instr.ldxAbs a)) (w16_hi_lo x)
  | bcs x => rfl
  | ldaIzy x => rfl
  | ldyZpx x => rfl
  | ldaZpx x => rfl
  | ldxZpy x => rfl
  | clv => rfl
  | ldaAby x => exact congrArg (fun a => some (Instr.ldaAby a)) (w16_hi_lo x)
  | tsx => rfl
  | ldyAbx x => exact congrArg (fun a => some (Instr.ldyAbx a)) (w16_hi_lo x)
  | ldaAbx x => exact congrArg (fun a => some (Instr.ldaAbx a)) (w16_hi_lo x)
  | ldxAby x => exact congrArg (fun a => some (Instr.ldxAby a)) (w16_hi_lo x)
  | cpyImm x => rfl
  | cmpIzx x => rfl
  | cpyZp x => rfl
  | cmpZp x => rfl
  | decZp x => rfl
  | iny => rfl
  | cmpImm x => rfl
  | dex => rfl
  | cpyAbs x => exact congrArg (fun a => some (Instr.cpyAbs a)) (w16_hi_lo x)
  | cmpAbs x => exact congrArg (fun a => some (Instr.cmpAbs a)) (w16_hi_lo x)
  | decAbs x => exact congrArg (fun a => some (Instr.decAbs a)) (w16_hi_lo x)
  | bne x => rfl
  | cmpIzy x => rfl
  | cmpZpx x => rfl
  | decZpx x => rfl
  | cld => rfl
  | cmpAby x => exact congrArg (fun a => some (Instr.cmpAby a)) (w16_hi_lo x)
  | cmpAbx x => exact congrArg (fun a => some (Instr.cmpAbx a)) (w16_hi_lo x)
  | decAbx x => exact congrArg (fun a => some (Instr.decAbx a)) (w16_hi_lo x)
  | cpxImm x => rfl
  | sbcIzx x => rfl
  | cpxZp x => rfl
  | sbcZp x => rfl
  | incZp x => rfl
  | inx => rfl
  | sbcImm x => rfl
  | nop => rfl
  | cpxAbs x => exact congrArg (fun a => some (Instr.cpxAbs a)) (w16_hi_lo x)
  | sbcAbs x => exact congrArg (fun a => some (Instr.sbcAbs a)) (w16_hi_lo x)
  | incAbs x => exact congrArg (fun a => some (Instr.incAbs a)) (w16_hi_lo x)
  | beq x => rfl
  | sbcIzy x => rfl
  | sbcZpx x => rfl
  | incZpx x => rfl
  | sed => rfl
  | sbcAby x => exact congrArg (fun a => some (Instr.sbcAby a)) (w16_hi_lo x)
  | sbcAbx x => exact congrArg (fun a => some (Instr.sbcAbx a)) (w16_hi_lo x)
  | incAbx x => exact congrArg (fun a => some (Instr.incAbx a)) (w16_hi_lo x)

end Sys2Proof
end

