-- ==== Sys2Proof/Laws/Flags.lean ====
section
/-! SUPPORT. The status byte: its value by place, and what unpacking a packed byte gives. -/

namespace Sys2Proof.Machine

open Sys2Proof

/-- The status byte by place value (R33). -/
theorem packP_eq (b : Bool) (r : RegisterFile) :
    packP b r = BitVec.ofNat 8 (r.n.toNat * 128 + r.v.toNat * 64 + 32 + b.toNat * 16 + r.d.toNat * 8 +
      r.i.toNat * 4 + r.z.toNat * 2 + r.c.toNat) := by
  obtain ⟨pc, sp, a, x, y, c, z, i, d, v, n⟩ := r
  revert b c z i d v n
  simp only [packP]
  decide

/-- Bits 7 to 0 of the status byte (R33). -/
theorem packP_bits (b : Bool) (r : RegisterFile) :
    bit (packP b r) 7 = r.n ∧ bit (packP b r) 6 = r.v ∧ bit (packP b r) 5 = true ∧ bit (packP b r) 4 = b ∧
      bit (packP b r) 3 = r.d ∧ bit (packP b r) 2 = r.i ∧ bit (packP b r) 1 = r.z ∧ bit (packP b r) 0 = r.c := by
  obtain ⟨pc, sp, a, x, y, c, z, i, d, v, n⟩ := r
  revert b c z i d v n
  simp only [packP]
  decide

/-- A packed byte unpacks to the six flags it was packed from, whatever the break bit (R33, R34). -/
@[simp] theorem unpackP_packP (b : Bool) (r q : RegisterFile) :
    unpackP (packP b r) q = { q with n := r.n, v := r.v, d := r.d, i := r.i, z := r.z, c := r.c } := by
  obtain ⟨h7, h6, -, -, h3, h2, h1, h0⟩ := packP_bits b r
  simp [unpackP, h7, h6, h3, h2, h1, h0]

/-- The add of R220 by value: result, carry. -/
theorem addC_fst (a m : Byte) (cin : Bool) : (addC a m cin).1 = BitVec.ofNat 8 (a.toNat + m.toNat + cin.toNat) := by
  apply BitVec.eq_of_toNat_eq
  simp [addC]

end Sys2Proof.Machine
end

