-- ==== Sys2Proof/Tests/Slice0.lean ====
section
/-! SUPPORT. Tests: ill-formed terms that the checks refuse; every constructor decoded from a word written from the
spec's encodings; one-step tests whose expected results stand in spec/95_test_vectors.md; and, for every statement with
hypotheses, a named witness that meets them. -/

namespace Sys2Proof.Tests

open Sys2Proof Sys2Proof.Machine

/-! ## Well-formedness: what each check refuses -/

/-- LDX has no (indirect),Y form (R106), STA no immediate form (R204), JMP (indirect) is JMP's alone (R92). -/
theorem test_unsupported_combination :
    supported .ldx .izy = false ∧ supported .sta .imm = false ∧ supported .lda .ind = false := by decide

/-- A stall counter of zero bits is no legal parameter (R8). -/
theorem test_config_ill_formed : (Config.mk .full (some 0)).wf = false ∧ Config.default.wf = true := by decide

/-- An unsorted memory, a repeated address, an entry equal to what an unlisted address reads as, an address outside the
bus. -/
theorem test_memory_ill_formed :
    Memory.wf [(2, 1#8), (1, 1#8)] = false ∧ Memory.wf [(1, 1#8), (1, 2#8)] = false ∧
      Memory.wf [(1, 0#8)] = false ∧ Memory.wf [(65536, 1#8)] = false ∧ Memory.wf [(0, 1#8), (65535, 2#8)] = true := by
  decide

/-- A sequencer that stands at a row with an unset latch, at no row, with a wrong cycle count, or in a combination the
table does not hold; an interrupt sequence at T7 without the vector's low byte. -/
theorem test_sequencer_ill_formed :
    SeqState.wf ⟨.exec, 2, .lda, .zp, none, none, none, false, 3⟩ = false ∧
      SeqState.wf ⟨.exec, 2, .lda, .zp, some 0x10#16, none, none, false, 3⟩ = true ∧
      SeqState.wf ⟨.exec, 3, .lda, .zp, some 0x10#16, none, none, false, 3⟩ = false ∧
      SeqState.wf ⟨.exec, 1, .lda, .zp, none, none, none, false, 4⟩ = false ∧
      SeqState.wf ⟨.exec, 1, .ldx, .izy, none, none, none, false, 5⟩ = false ∧
      SeqState.wf ⟨.nmiSeq, 6, .nop, .imp, none, none, none, false, 7⟩ = false ∧
      SeqState.wf ⟨.exec, 1, .bne, .rel, none, none, none, true, 2⟩ = false := by decide

/-- A stall count that does not fit its width. -/
theorem test_stall_ill_formed :
    State.wf { State.reset with stallCycles := 4, config := ⟨.full, some 2⟩ } = false ∧
      State.wf { State.reset with stallCycles := 3, config := ⟨.full, some 2⟩ } = true := by decide

/-! ## Decoding: words written from the encodings of spec/41 to 46 -/


theorem test_decode_loads_1 :
    decode [0xA1#8, 0x11#8] = .ok ((.ldaIzx 0x11#8), []) ∧
    decode [0xA5#8, 0x18#8] = .ok ((.ldaZp 0x18#8), []) ∧
    decode [0xA9#8, 0x1F#8] = .ok ((.ldaImm 0x1F#8), []) ∧
    decode [0xAD#8, 0x26#8, 0x83#8] = .ok ((.ldaAbs 0x8326#16), []) ∧
    decode [0xB1#8, 0x2D#8] = .ok ((.ldaIzy 0x2D#8), []) ∧
    decode [0xB5#8, 0x34#8] = .ok ((.ldaZpx 0x34#8), []) ∧
    decode [0xB9#8, 0x3B#8, 0x86#8] = .ok ((.ldaAby 0x863B#16), []) ∧
    decode [0xBD#8, 0x42#8, 0x87#8] = .ok ((.ldaAbx 0x8742#16), []) ∧
    decode [0xA2#8, 0x49#8] = .ok ((.ldxImm 0x49#8), []) ∧
    decode [0xA6#8, 0x50#8] = .ok ((.ldxZp 0x50#8), []) := by
  decide

theorem test_decode_loads_2 :
    decode [0xAE#8, 0x57#8, 0x8A#8] = .ok ((.ldxAbs 0x8A57#16), []) ∧
    decode [0xB6#8, 0x5E#8] = .ok ((.ldxZpy 0x5E#8), []) ∧
    decode [0xBE#8, 0x65#8, 0x8C#8] = .ok ((.ldxAby 0x8C65#16), []) ∧
    decode [0xA0#8, 0x6C#8] = .ok ((.ldyImm 0x6C#8), []) ∧
    decode [0xA4#8, 0x73#8] = .ok ((.ldyZp 0x73#8), []) ∧
    decode [0xAC#8, 0x7A#8, 0x8F#8] = .ok ((.ldyAbs 0x8F7A#16), []) ∧
    decode [0xB4#8, 0x81#8] = .ok ((.ldyZpx 0x81#8), []) ∧
    decode [0xBC#8, 0x88#8, 0x91#8] = .ok ((.ldyAbx 0x9188#16), []) := by
  decide

theorem test_decode_stores_1 :
    decode [0x81#8, 0x11#8] = .ok ((.staIzx 0x11#8), []) ∧
    decode [0x85#8, 0x18#8] = .ok ((.staZp 0x18#8), []) ∧
    decode [0x8D#8, 0x1F#8, 0x82#8] = .ok ((.staAbs 0x821F#16), []) ∧
    decode [0x91#8, 0x26#8] = .ok ((.staIzy 0x26#8), []) ∧
    decode [0x95#8, 0x2D#8] = .ok ((.staZpx 0x2D#8), []) ∧
    decode [0x99#8, 0x34#8, 0x85#8] = .ok ((.staAby 0x8534#16), []) ∧
    decode [0x9D#8, 0x3B#8, 0x86#8] = .ok ((.staAbx 0x863B#16), []) ∧
    decode [0x86#8, 0x42#8] = .ok ((.stxZp 0x42#8), []) ∧
    decode [0x8E#8, 0x49#8, 0x88#8] = .ok ((.stxAbs 0x8849#16), []) ∧
    decode [0x96#8, 0x50#8] = .ok ((.stxZpy 0x50#8), []) := by
  decide

theorem test_decode_stores_2 :
    decode [0x84#8, 0x57#8] = .ok ((.styZp 0x57#8), []) ∧
    decode [0x8C#8, 0x5E#8, 0x8B#8] = .ok ((.styAbs 0x8B5E#16), []) ∧
    decode [0x94#8, 0x65#8] = .ok ((.styZpx 0x65#8), []) := by
  decide

theorem test_decode_transfers :
    decode [0xAA#8] = .ok (.tax, []) ∧
    decode [0xA8#8] = .ok (.tay, []) ∧
    decode [0x8A#8] = .ok (.txa, []) ∧
    decode [0x98#8] = .ok (.tya, []) ∧
    decode [0xBA#8] = .ok (.tsx, []) ∧
    decode [0x9A#8] = .ok (.txs, []) := by
  decide

theorem test_decode_add_subtract_1 :
    decode [0x61#8, 0x11#8] = .ok ((.adcIzx 0x11#8), []) ∧
    decode [0x65#8, 0x18#8] = .ok ((.adcZp 0x18#8), []) ∧
    decode [0x69#8, 0x1F#8] = .ok ((.adcImm 0x1F#8), []) ∧
    decode [0x6D#8, 0x26#8, 0x83#8] = .ok ((.adcAbs 0x8326#16), []) ∧
    decode [0x71#8, 0x2D#8] = .ok ((.adcIzy 0x2D#8), []) ∧
    decode [0x75#8, 0x34#8] = .ok ((.adcZpx 0x34#8), []) ∧
    decode [0x79#8, 0x3B#8, 0x86#8] = .ok ((.adcAby 0x863B#16), []) ∧
    decode [0x7D#8, 0x42#8, 0x87#8] = .ok ((.adcAbx 0x8742#16), []) ∧
    decode [0xE1#8, 0x49#8] = .ok ((.sbcIzx 0x49#8), []) ∧
    decode [0xE5#8, 0x50#8] = .ok ((.sbcZp 0x50#8), []) := by
  decide

theorem test_decode_add_subtract_2 :
    decode [0xE9#8, 0x57#8] = .ok ((.sbcImm 0x57#8), []) ∧
    decode [0xED#8, 0x5E#8, 0x8B#8] = .ok ((.sbcAbs 0x8B5E#16), []) ∧
    decode [0xF1#8, 0x65#8] = .ok ((.sbcIzy 0x65#8), []) ∧
    decode [0xF5#8, 0x6C#8] = .ok ((.sbcZpx 0x6C#8), []) ∧
    decode [0xF9#8, 0x73#8, 0x8E#8] = .ok ((.sbcAby 0x8E73#16), []) ∧
    decode [0xFD#8, 0x7A#8, 0x8F#8] = .ok ((.sbcAbx 0x8F7A#16), []) := by
  decide

theorem test_decode_logic_1 :
    decode [0x21#8, 0x11#8] = .ok ((.andIzx 0x11#8), []) ∧
    decode [0x25#8, 0x18#8] = .ok ((.andZp 0x18#8), []) ∧
    decode [0x29#8, 0x1F#8] = .ok ((.andImm 0x1F#8), []) ∧
    decode [0x2D#8, 0x26#8, 0x83#8] = .ok ((.andAbs 0x8326#16), []) ∧
    decode [0x31#8, 0x2D#8] = .ok ((.andIzy 0x2D#8), []) ∧
    decode [0x35#8, 0x34#8] = .ok ((.andZpx 0x34#8), []) ∧
    decode [0x39#8, 0x3B#8, 0x86#8] = .ok ((.andAby 0x863B#16), []) ∧
    decode [0x3D#8, 0x42#8, 0x87#8] = .ok ((.andAbx 0x8742#16), []) ∧
    decode [0x01#8, 0x49#8] = .ok ((.oraIzx 0x49#8), []) ∧
    decode [0x05#8, 0x50#8] = .ok ((.oraZp 0x50#8), []) := by
  decide

theorem test_decode_logic_2 :
    decode [0x09#8, 0x57#8] = .ok ((.oraImm 0x57#8), []) ∧
    decode [0x0D#8, 0x5E#8, 0x8B#8] = .ok ((.oraAbs 0x8B5E#16), []) ∧
    decode [0x11#8, 0x65#8] = .ok ((.oraIzy 0x65#8), []) ∧
    decode [0x15#8, 0x6C#8] = .ok ((.oraZpx 0x6C#8), []) ∧
    decode [0x19#8, 0x73#8, 0x8E#8] = .ok ((.oraAby 0x8E73#16), []) ∧
    decode [0x1D#8, 0x7A#8, 0x8F#8] = .ok ((.oraAbx 0x8F7A#16), []) ∧
    decode [0x41#8, 0x81#8] = .ok ((.eorIzx 0x81#8), []) ∧
    decode [0x45#8, 0x88#8] = .ok ((.eorZp 0x88#8), []) ∧
    decode [0x49#8, 0x8F#8] = .ok ((.eorImm 0x8F#8), []) ∧
    decode [0x4D#8, 0x96#8, 0x93#8] = .ok ((.eorAbs 0x9396#16), []) := by
  decide

theorem test_decode_logic_3 :
    decode [0x51#8, 0x9D#8] = .ok ((.eorIzy 0x9D#8), []) ∧
    decode [0x55#8, 0xA4#8] = .ok ((.eorZpx 0xA4#8), []) ∧
    decode [0x59#8, 0xAB#8, 0x96#8] = .ok ((.eorAby 0x96AB#16), []) ∧
    decode [0x5D#8, 0xB2#8, 0x97#8] = .ok ((.eorAbx 0x97B2#16), []) ∧
    decode [0x24#8, 0xB9#8] = .ok ((.bitZp 0xB9#8), []) ∧
    decode [0x2C#8, 0xC0#8, 0x99#8] = .ok ((.bitAbs 0x99C0#16), []) := by
  decide

theorem test_decode_compare_1 :
    decode [0xC1#8, 0x11#8] = .ok ((.cmpIzx 0x11#8), []) ∧
    decode [0xC5#8, 0x18#8] = .ok ((.cmpZp 0x18#8), []) ∧
    decode [0xC9#8, 0x1F#8] = .ok ((.cmpImm 0x1F#8), []) ∧
    decode [0xCD#8, 0x26#8, 0x83#8] = .ok ((.cmpAbs 0x8326#16), []) ∧
    decode [0xD1#8, 0x2D#8] = .ok ((.cmpIzy 0x2D#8), []) ∧
    decode [0xD5#8, 0x34#8] = .ok ((.cmpZpx 0x34#8), []) ∧
    decode [0xD9#8, 0x3B#8, 0x86#8] = .ok ((.cmpAby 0x863B#16), []) ∧
    decode [0xDD#8, 0x42#8, 0x87#8] = .ok ((.cmpAbx 0x8742#16), []) ∧
    decode [0xE0#8, 0x49#8] = .ok ((.cpxImm 0x49#8), []) ∧
    decode [0xE4#8, 0x50#8] = .ok ((.cpxZp 0x50#8), []) := by
  decide

theorem test_decode_compare_2 :
    decode [0xEC#8, 0x57#8, 0x8A#8] = .ok ((.cpxAbs 0x8A57#16), []) ∧
    decode [0xC0#8, 0x5E#8] = .ok ((.cpyImm 0x5E#8), []) ∧
    decode [0xC4#8, 0x65#8] = .ok ((.cpyZp 0x65#8), []) ∧
    decode [0xCC#8, 0x6C#8, 0x8D#8] = .ok ((.cpyAbs 0x8D6C#16), []) := by
  decide

theorem test_decode_increment_1 :
    decode [0xE6#8, 0x11#8] = .ok ((.incZp 0x11#8), []) ∧
    decode [0xEE#8, 0x18#8, 0x81#8] = .ok ((.incAbs 0x8118#16), []) ∧
    decode [0xF6#8, 0x1F#8] = .ok ((.incZpx 0x1F#8), []) ∧
    decode [0xFE#8, 0x26#8, 0x83#8] = .ok ((.incAbx 0x8326#16), []) ∧
    decode [0xC6#8, 0x2D#8] = .ok ((.decZp 0x2D#8), []) ∧
    decode [0xCE#8, 0x34#8, 0x85#8] = .ok ((.decAbs 0x8534#16), []) ∧
    decode [0xD6#8, 0x3B#8] = .ok ((.decZpx 0x3B#8), []) ∧
    decode [0xDE#8, 0x42#8, 0x87#8] = .ok ((.decAbx 0x8742#16), []) ∧
    decode [0xE8#8] = .ok (.inx, []) ∧
    decode [0xC8#8] = .ok (.iny, []) := by
  decide

theorem test_decode_increment_2 :
    decode [0xCA#8] = .ok (.dex, []) ∧
    decode [0x88#8] = .ok (.dey, []) := by
  decide

theorem test_decode_shifts :
    decode [0x06#8, 0x11#8] = .ok ((.aslZp 0x11#8), []) ∧
    decode [0x0A#8] = .ok (.aslAcc, []) ∧
    decode [0x0E#8, 0x1F#8, 0x82#8] = .ok ((.aslAbs 0x821F#16), []) ∧
    decode [0x16#8, 0x26#8] = .ok ((.aslZpx 0x26#8), []) ∧
    decode [0x1E#8, 0x2D#8, 0x84#8] = .ok ((.aslAbx 0x842D#16), []) ∧
    decode [0x46#8, 0x34#8] = .ok ((.lsrZp 0x34#8), []) ∧
    decode [0x4A#8] = .ok (.lsrAcc, []) ∧
    decode [0x4E#8, 0x42#8, 0x87#8] = .ok ((.lsrAbs 0x8742#16), []) ∧
    decode [0x56#8, 0x49#8] = .ok ((.lsrZpx 0x49#8), []) ∧
    decode [0x5E#8, 0x50#8, 0x89#8] = .ok ((.lsrAbx 0x8950#16), []) := by
  decide

theorem test_decode_rotates :
    decode [0x26#8, 0x11#8] = .ok ((.rolZp 0x11#8), []) ∧
    decode [0x2A#8] = .ok (.rolAcc, []) ∧
    decode [0x2E#8, 0x1F#8, 0x82#8] = .ok ((.rolAbs 0x821F#16), []) ∧
    decode [0x36#8, 0x26#8] = .ok ((.rolZpx 0x26#8), []) ∧
    decode [0x3E#8, 0x2D#8, 0x84#8] = .ok ((.rolAbx 0x842D#16), []) ∧
    decode [0x66#8, 0x34#8] = .ok ((.rorZp 0x34#8), []) ∧
    decode [0x6A#8] = .ok (.rorAcc, []) ∧
    decode [0x6E#8, 0x42#8, 0x87#8] = .ok ((.rorAbs 0x8742#16), []) ∧
    decode [0x76#8, 0x49#8] = .ok ((.rorZpx 0x49#8), []) ∧
    decode [0x7E#8, 0x50#8, 0x89#8] = .ok ((.rorAbx 0x8950#16), []) := by
  decide

theorem test_decode_stack :
    decode [0x48#8] = .ok (.pha, []) ∧
    decode [0x08#8] = .ok (.php, []) ∧
    decode [0x68#8] = .ok (.pla, []) ∧
    decode [0x28#8] = .ok (.plp, []) := by
  decide

theorem test_decode_branches :
    decode [0x90#8, 0x11#8] = .ok ((.bcc 0x11#8), []) ∧
    decode [0xB0#8, 0x18#8] = .ok ((.bcs 0x18#8), []) ∧
    decode [0xF0#8, 0x1F#8] = .ok ((.beq 0x1F#8), []) ∧
    decode [0xD0#8, 0x26#8] = .ok ((.bne 0x26#8), []) ∧
    decode [0x30#8, 0x2D#8] = .ok ((.bmi 0x2D#8), []) ∧
    decode [0x10#8, 0x34#8] = .ok ((.bpl 0x34#8), []) ∧
    decode [0x50#8, 0x3B#8] = .ok ((.bvc 0x3B#8), []) ∧
    decode [0x70#8, 0x42#8] = .ok ((.bvs 0x42#8), []) := by
  decide

theorem test_decode_jumps :
    decode [0x4C#8, 0x11#8, 0x80#8] = .ok ((.jmpAbs 0x8011#16), []) ∧
    decode [0x6C#8, 0x18#8, 0x81#8] = .ok ((.jmpInd 0x8118#16), []) ∧
    decode [0x20#8, 0x1F#8, 0x82#8] = .ok ((.jsr 0x821F#16), []) ∧
    decode [0x60#8] = .ok (.rts, []) := by
  decide

theorem test_decode_flags_system :
    decode [0x18#8] = .ok (.clc, []) ∧
    decode [0xD8#8] = .ok (.cld, []) ∧
    decode [0x58#8] = .ok (.cli, []) ∧
    decode [0xB8#8] = .ok (.clv, []) ∧
    decode [0x38#8] = .ok (.sec, []) ∧
    decode [0xF8#8] = .ok (.sed, []) ∧
    decode [0x78#8] = .ok (.sei, []) ∧
    decode [0xEA#8] = .ok (.nop, []) ∧
    decode [0x00#8] = .ok (.brk, []) ∧
    decode [0x40#8] = .ok (.rti, []) := by
  decide

/-- The decoder takes what it needs and leaves the rest, and refuses a cut instruction and an illegal byte by name. -/
theorem test_decode_rest_and_refusals :
    decode [0xA9#8, 0x42#8, 0x99#8] = .ok (.ldaImm 0x42#8, [0x99#8]) ∧ decode [0xA9#8] = .error .truncated ∧
      decode [] = .error .truncated ∧ decode [0x02#8, 0x00#8] = .error (.unknownOpcode 0x02#8) := by decide

/-! ## One step: the vectors of spec/95_test_vectors.md part 2 -/

/-- The start of a vector: power-on but for the registers and the listed bytes, in any order. -/
def start (r : RegisterFile) (cells : List Host.Cell) : State :=
  { State.reset with regs := r, mem := cells.foldl (fun m c => Memory.write m c.1 c.2) [] }

/-- One step from the start ends in the given number of clocks with the given registers (in the order PC, SP, A, X, Y, C,
Z, I, D, V, N) and memory bytes. -/
def ends (clocks : Nat) (r : RegisterFile) (cells : List Host.Cell) (finish : RegisterFile) (written : List Host.Cell) :
    Bool :=
  match step (start r cells) with
  | .next t => t.regs == finish && t.bus.now == clocks && written.all fun c => Memory.read t.mem c.1 == c.2
  | _ => false


/-- LDX $FF,Y wrap -/
theorem test_ldx_zpy :
    ends 4 ⟨0x0200#16, 0xFD#8, 0x00#8, 0x00#8, 0x02#8, false, false, true, false, false, false⟩
      [(0x0001, 0x9C#8), (0x0200, 0xB6#8), (0x0201, 0xFF#8)]
      ⟨0x0202#16, 0xFD#8, 0x00#8, 0x9C#8, 0x02#8, false, false, true, false, false, true⟩
      [] = true := by decide

/-- LDA ($FF,X) X=0 -/
theorem test_lda_izx :
    ends 6 ⟨0x0200#16, 0xFD#8, 0x00#8, 0x00#8, 0x00#8, false, false, true, false, false, false⟩
      [(0x0000, 0x12#8), (0x00FF, 0x34#8), (0x0200, 0xA1#8), (0x0201, 0xFF#8), (0x1234, 0x5A#8)]
      ⟨0x0202#16, 0xFD#8, 0x5A#8, 0x00#8, 0x00#8, false, false, true, false, false, false⟩
      [] = true := by decide

/-- LDA ($FF),Y -/
theorem test_lda_izy :
    ends 6 ⟨0x0200#16, 0xFD#8, 0x00#8, 0x00#8, 0x10#8, false, false, true, false, false, false⟩
      [(0x0000, 0x12#8), (0x00FF, 0xF8#8), (0x0200, 0xB1#8), (0x0201, 0xFF#8), (0x1308, 0x77#8)]
      ⟨0x0202#16, 0xFD#8, 0x77#8, 0x00#8, 0x10#8, false, false, true, false, false, false⟩
      [] = true := by decide

/-- LDY $10FF,X cross -/
theorem test_ldy_abx :
    ends 5 ⟨0x0200#16, 0xFD#8, 0x00#8, 0x01#8, 0x00#8, false, false, true, false, false, false⟩
      [(0x0200, 0xBC#8), (0x0201, 0xFF#8), (0x0202, 0x10#8), (0x1100, 0x80#8)]
      ⟨0x0203#16, 0xFD#8, 0x00#8, 0x01#8, 0x80#8, false, false, true, false, false, true⟩
      [] = true := by decide

/-- STX $FF,Y wrap -/
theorem test_stx_zpy :
    ends 4 ⟨0x0200#16, 0xFD#8, 0x00#8, 0x33#8, 0x02#8, false, false, true, false, false, false⟩
      [(0x0200, 0x96#8), (0x0201, 0xFF#8)]
      ⟨0x0202#16, 0xFD#8, 0x00#8, 0x33#8, 0x02#8, false, false, true, false, false, false⟩
      [(0x0001, 0x33#8)] = true := by decide

/-- STA ($20),Y -/
theorem test_sta_izy :
    ends 6 ⟨0x0200#16, 0xFD#8, 0xAB#8, 0x00#8, 0x05#8, false, false, true, false, false, false⟩
      [(0x0021, 0x05#8), (0x0200, 0x91#8), (0x0201, 0x20#8)]
      ⟨0x0202#16, 0xFD#8, 0xAB#8, 0x00#8, 0x05#8, false, false, true, false, false, false⟩
      [(0x0505, 0xAB#8)] = true := by decide

/-- STA ($20,X) -/
theorem test_sta_izx :
    ends 6 ⟨0x0200#16, 0xFD#8, 0xCD#8, 0x04#8, 0x00#8, false, false, true, false, false, false⟩
      [(0x0025, 0x06#8), (0x0200, 0x81#8), (0x0201, 0x20#8)]
      ⟨0x0202#16, 0xFD#8, 0xCD#8, 0x04#8, 0x00#8, false, false, true, false, false, false⟩
      [(0x0600, 0xCD#8)] = true := by decide

/-- STY $0300 -/
theorem test_sty_abs :
    ends 4 ⟨0x0200#16, 0xFD#8, 0x00#8, 0x00#8, 0x7F#8, false, false, true, false, false, false⟩
      [(0x0200, 0x8C#8), (0x0202, 0x03#8)]
      ⟨0x0203#16, 0xFD#8, 0x00#8, 0x00#8, 0x7F#8, false, false, true, false, false, false⟩
      [(0x0300, 0x7F#8)] = true := by decide

/-- TAX -/
theorem test_tax_imp :
    ends 2 ⟨0x0200#16, 0xFD#8, 0x80#8, 0x00#8, 0x00#8, false, false, true, false, false, false⟩
      [(0x0200, 0xAA#8)]
      ⟨0x0201#16, 0xFD#8, 0x80#8, 0x80#8, 0x00#8, false, false, true, false, false, true⟩
      [] = true := by decide

/-- TXS (no flags) -/
theorem test_txs_imp :
    ends 2 ⟨0x0200#16, 0xFD#8, 0x00#8, 0x00#8, 0x00#8, false, false, true, false, false, true⟩
      [(0x0200, 0x9A#8)]
      ⟨0x0201#16, 0x00#8, 0x00#8, 0x00#8, 0x00#8, false, false, true, false, false, true⟩
      [] = true := by decide

/-- TSX -/
theorem test_tsx_imp :
    ends 2 ⟨0x0200#16, 0x00#8, 0x00#8, 0x00#8, 0x00#8, false, false, true, false, false, false⟩
      [(0x0200, 0xBA#8)]
      ⟨0x0201#16, 0x00#8, 0x00#8, 0x00#8, 0x00#8, false, true, true, false, false, false⟩
      [] = true := by decide

/-- TXA -/
theorem test_txa_imp :
    ends 2 ⟨0x0200#16, 0xFD#8, 0x12#8, 0x00#8, 0x00#8, false, false, true, false, false, false⟩
      [(0x0200, 0x8A#8)]
      ⟨0x0201#16, 0xFD#8, 0x00#8, 0x00#8, 0x00#8, false, true, true, false, false, false⟩
      [] = true := by decide

/-- TYA -/
theorem test_tya_imp :
    ends 2 ⟨0x0200#16, 0xFD#8, 0x00#8, 0x00#8, 0xFF#8, false, false, true, false, false, false⟩
      [(0x0200, 0x98#8)]
      ⟨0x0201#16, 0xFD#8, 0xFF#8, 0x00#8, 0xFF#8, false, false, true, false, false, true⟩
      [] = true := by decide

/-- TAY -/
theorem test_tay_imp :
    ends 2 ⟨0x0200#16, 0xFD#8, 0x01#8, 0x00#8, 0x00#8, false, false, true, false, false, false⟩
      [(0x0200, 0xA8#8)]
      ⟨0x0201#16, 0xFD#8, 0x01#8, 0x00#8, 0x01#8, false, false, true, false, false, false⟩
      [] = true := by decide

/-- ADC #$50 A=$50 C=0 -/
theorem test_adc_imm :
    ends 2 ⟨0x0200#16, 0xFD#8, 0x50#8, 0x00#8, 0x00#8, false, false, true, false, false, false⟩
      [(0x0200, 0x69#8), (0x0201, 0x50#8)]
      ⟨0x0202#16, 0xFD#8, 0xA0#8, 0x00#8, 0x00#8, false, false, true, false, true, true⟩
      [] = true := by decide

/-- ADC #$01 A=$FF C=0 -/
theorem test_adc_imm_2 :
    ends 2 ⟨0x0200#16, 0xFD#8, 0xFF#8, 0x00#8, 0x00#8, false, false, true, false, false, false⟩
      [(0x0200, 0x69#8), (0x0201, 0x01#8)]
      ⟨0x0202#16, 0xFD#8, 0x00#8, 0x00#8, 0x00#8, true, true, true, false, false, false⟩
      [] = true := by decide

/-- SBC #$F0 A=$50 C=1 -/
theorem test_sbc_imm :
    ends 2 ⟨0x0200#16, 0xFD#8, 0x50#8, 0x00#8, 0x00#8, true, false, true, false, false, false⟩
      [(0x0200, 0xE9#8), (0x0201, 0xF0#8)]
      ⟨0x0202#16, 0xFD#8, 0x60#8, 0x00#8, 0x00#8, false, false, true, false, false, false⟩
      [] = true := by decide

/-- SBC #$B0 A=$50 C=1 -/
theorem test_sbc_imm_2 :
    ends 2 ⟨0x0200#16, 0xFD#8, 0x50#8, 0x00#8, 0x00#8, true, false, true, false, false, false⟩
      [(0x0200, 0xE9#8), (0x0201, 0xB0#8)]
      ⟨0x0202#16, 0xFD#8, 0xA0#8, 0x00#8, 0x00#8, false, false, true, false, true, true⟩
      [] = true := by decide

/-- AND #$0F -/
theorem test_and_imm :
    ends 2 ⟨0x0200#16, 0xFD#8, 0xF0#8, 0x00#8, 0x00#8, false, false, true, false, false, false⟩
      [(0x0200, 0x29#8), (0x0201, 0x0F#8)]
      ⟨0x0202#16, 0xFD#8, 0x00#8, 0x00#8, 0x00#8, false, true, true, false, false, false⟩
      [] = true := by decide

/-- ORA #$80 -/
theorem test_ora_imm :
    ends 2 ⟨0x0200#16, 0xFD#8, 0x01#8, 0x00#8, 0x00#8, false, false, true, false, false, false⟩
      [(0x0200, 0x09#8), (0x0201, 0x80#8)]
      ⟨0x0202#16, 0xFD#8, 0x81#8, 0x00#8, 0x00#8, false, false, true, false, false, true⟩
      [] = true := by decide

/-- EOR #$FF -/
theorem test_eor_imm :
    ends 2 ⟨0x0200#16, 0xFD#8, 0xFF#8, 0x00#8, 0x00#8, false, false, true, false, false, false⟩
      [(0x0200, 0x49#8), (0x0201, 0xFF#8)]
      ⟨0x0202#16, 0xFD#8, 0x00#8, 0x00#8, 0x00#8, false, true, true, false, false, false⟩
      [] = true := by decide

/-- BIT $10 -/
theorem test_bit_zp :
    ends 3 ⟨0x0200#16, 0xFD#8, 0x3F#8, 0x00#8, 0x00#8, false, false, true, false, false, false⟩
      [(0x0010, 0xC0#8), (0x0200, 0x24#8), (0x0201, 0x10#8)]
      ⟨0x0202#16, 0xFD#8, 0x3F#8, 0x00#8, 0x00#8, false, true, true, false, true, true⟩
      [] = true := by decide

/-- BIT $10 nonzero -/
theorem test_bit_zp_2 :
    ends 3 ⟨0x0200#16, 0xFD#8, 0x01#8, 0x00#8, 0x00#8, false, false, true, false, true, true⟩
      [(0x0010, 0x01#8), (0x0200, 0x24#8), (0x0201, 0x10#8)]
      ⟨0x0202#16, 0xFD#8, 0x01#8, 0x00#8, 0x00#8, false, false, true, false, false, false⟩
      [] = true := by decide

/-- CMP #$10 A=$05 -/
theorem test_cmp_imm :
    ends 2 ⟨0x0200#16, 0xFD#8, 0x05#8, 0x00#8, 0x00#8, false, false, true, false, false, false⟩
      [(0x0200, 0xC9#8), (0x0201, 0x10#8)]
      ⟨0x0202#16, 0xFD#8, 0x05#8, 0x00#8, 0x00#8, false, false, true, false, false, true⟩
      [] = true := by decide

/-- CMP #$05 A=$05 -/
theorem test_cmp_imm_2 :
    ends 2 ⟨0x0200#16, 0xFD#8, 0x05#8, 0x00#8, 0x00#8, false, false, true, false, false, false⟩
      [(0x0200, 0xC9#8), (0x0201, 0x05#8)]
      ⟨0x0202#16, 0xFD#8, 0x05#8, 0x00#8, 0x00#8, true, true, true, false, false, false⟩
      [] = true := by decide

/-- CPX #$20 X=$30 -/
theorem test_cpx_imm :
    ends 2 ⟨0x0200#16, 0xFD#8, 0x00#8, 0x30#8, 0x00#8, false, false, true, false, false, false⟩
      [(0x0200, 0xE0#8), (0x0201, 0x20#8)]
      ⟨0x0202#16, 0xFD#8, 0x00#8, 0x30#8, 0x00#8, true, false, true, false, false, false⟩
      [] = true := by decide

/-- CPY $10 Y=$00 -/
theorem test_cpy_zp :
    ends 3 ⟨0x0200#16, 0xFD#8, 0x00#8, 0x00#8, 0x00#8, false, false, true, false, false, false⟩
      [(0x0200, 0xC4#8), (0x0201, 0x10#8)]
      ⟨0x0202#16, 0xFD#8, 0x00#8, 0x00#8, 0x00#8, true, true, true, false, false, false⟩
      [] = true := by decide

/-- INC $10 $FF -/
theorem test_inc_zp :
    ends 5 ⟨0x0200#16, 0xFD#8, 0x00#8, 0x00#8, 0x00#8, true, false, true, false, false, false⟩
      [(0x0010, 0xFF#8), (0x0200, 0xE6#8), (0x0201, 0x10#8)]
      ⟨0x0202#16, 0xFD#8, 0x00#8, 0x00#8, 0x00#8, true, true, true, false, false, false⟩
      [(0x0010, 0x00#8)] = true := by decide

/-- DEC $10 $00 -/
theorem test_dec_zp :
    ends 5 ⟨0x0200#16, 0xFD#8, 0x00#8, 0x00#8, 0x00#8, false, false, true, false, false, false⟩
      [(0x0200, 0xC6#8), (0x0201, 0x10#8)]
      ⟨0x0202#16, 0xFD#8, 0x00#8, 0x00#8, 0x00#8, false, false, true, false, false, true⟩
      [(0x0010, 0xFF#8)] = true := by decide

/-- INC $12FF,X -/
theorem test_inc_abx :
    ends 7 ⟨0x0200#16, 0xFD#8, 0x00#8, 0x01#8, 0x00#8, false, false, true, false, false, false⟩
      [(0x0200, 0xFE#8), (0x0201, 0xFF#8), (0x0202, 0x12#8), (0x1300, 0x7F#8)]
      ⟨0x0203#16, 0xFD#8, 0x00#8, 0x01#8, 0x00#8, false, false, true, false, false, true⟩
      [(0x1300, 0x80#8)] = true := by decide

/-- INX $FF -/
theorem test_inx_imp :
    ends 2 ⟨0x0200#16, 0xFD#8, 0x00#8, 0xFF#8, 0x00#8, false, false, true, false, false, false⟩
      [(0x0200, 0xE8#8)]
      ⟨0x0201#16, 0xFD#8, 0x00#8, 0x00#8, 0x00#8, false, true, true, false, false, false⟩
      [] = true := by decide

/-- INY -/
theorem test_iny_imp :
    ends 2 ⟨0x0200#16, 0xFD#8, 0x00#8, 0x00#8, 0x7F#8, false, false, true, false, false, false⟩
      [(0x0200, 0xC8#8)]
      ⟨0x0201#16, 0xFD#8, 0x00#8, 0x00#8, 0x80#8, false, false, true, false, false, true⟩
      [] = true := by decide

/-- DEX $00 -/
theorem test_dex_imp :
    ends 2 ⟨0x0200#16, 0xFD#8, 0x00#8, 0x00#8, 0x00#8, false, false, true, false, false, false⟩
      [(0x0200, 0xCA#8)]
      ⟨0x0201#16, 0xFD#8, 0x00#8, 0xFF#8, 0x00#8, false, false, true, false, false, true⟩
      [] = true := by decide

/-- DEY $01 -/
theorem test_dey_imp :
    ends 2 ⟨0x0200#16, 0xFD#8, 0x00#8, 0x00#8, 0x01#8, false, false, true, false, false, false⟩
      [(0x0200, 0x88#8)]
      ⟨0x0201#16, 0xFD#8, 0x00#8, 0x00#8, 0x00#8, false, true, true, false, false, false⟩
      [] = true := by decide

/-- ASL A $80 -/
theorem test_asl_acc :
    ends 2 ⟨0x0200#16, 0xFD#8, 0x80#8, 0x00#8, 0x00#8, false, false, true, false, false, false⟩
      [(0x0200, 0x0A#8)]
      ⟨0x0201#16, 0xFD#8, 0x00#8, 0x00#8, 0x00#8, true, true, true, false, false, false⟩
      [] = true := by decide

/-- LSR A $01 -/
theorem test_lsr_acc :
    ends 2 ⟨0x0200#16, 0xFD#8, 0x01#8, 0x00#8, 0x00#8, false, false, true, false, false, true⟩
      [(0x0200, 0x4A#8)]
      ⟨0x0201#16, 0xFD#8, 0x00#8, 0x00#8, 0x00#8, true, true, true, false, false, false⟩
      [] = true := by decide

/-- ROL A $80 C0 -/
theorem test_rol_acc :
    ends 2 ⟨0x0200#16, 0xFD#8, 0x80#8, 0x00#8, 0x00#8, false, false, true, false, false, false⟩
      [(0x0200, 0x2A#8)]
      ⟨0x0201#16, 0xFD#8, 0x00#8, 0x00#8, 0x00#8, true, true, true, false, false, false⟩
      [] = true := by decide

/-- ROR A $00 C1 -/
theorem test_ror_acc :
    ends 2 ⟨0x0200#16, 0xFD#8, 0x00#8, 0x00#8, 0x00#8, true, false, true, false, false, false⟩
      [(0x0200, 0x6A#8)]
      ⟨0x0201#16, 0xFD#8, 0x80#8, 0x00#8, 0x00#8, false, false, true, false, false, true⟩
      [] = true := by decide

/-- ROR A $01 C0 -/
theorem test_ror_acc_2 :
    ends 2 ⟨0x0200#16, 0xFD#8, 0x01#8, 0x00#8, 0x00#8, false, false, true, false, false, false⟩
      [(0x0200, 0x6A#8)]
      ⟨0x0201#16, 0xFD#8, 0x00#8, 0x00#8, 0x00#8, true, true, true, false, false, false⟩
      [] = true := by decide

/-- ASL $10 -/
theorem test_asl_zp :
    ends 5 ⟨0x0200#16, 0xFD#8, 0x00#8, 0x00#8, 0x00#8, false, false, true, false, false, false⟩
      [(0x0010, 0x81#8), (0x0200, 0x06#8), (0x0201, 0x10#8)]
      ⟨0x0202#16, 0xFD#8, 0x00#8, 0x00#8, 0x00#8, true, false, true, false, false, false⟩
      [(0x0010, 0x02#8)] = true := by decide

/-- LSR $10 -/
theorem test_lsr_zp :
    ends 5 ⟨0x0200#16, 0xFD#8, 0x00#8, 0x00#8, 0x00#8, false, false, true, false, false, false⟩
      [(0x0010, 0x81#8), (0x0200, 0x46#8), (0x0201, 0x10#8)]
      ⟨0x0202#16, 0xFD#8, 0x00#8, 0x00#8, 0x00#8, true, false, true, false, false, false⟩
      [(0x0010, 0x40#8)] = true := by decide

/-- ROL $10,X wrap -/
theorem test_rol_zpx :
    ends 6 ⟨0x0200#16, 0xFD#8, 0x00#8, 0x20#8, 0x00#8, true, false, true, false, false, false⟩
      [(0x0010, 0x80#8), (0x0200, 0x36#8), (0x0201, 0xF0#8)]
      ⟨0x0202#16, 0xFD#8, 0x00#8, 0x20#8, 0x00#8, true, false, true, false, false, false⟩
      [(0x0010, 0x01#8)] = true := by decide

/-- PHA SP=$00 -/
theorem test_pha_imp :
    ends 3 ⟨0x0200#16, 0x00#8, 0x42#8, 0x00#8, 0x00#8, false, false, true, false, false, false⟩
      [(0x0200, 0x48#8)]
      ⟨0x0201#16, 0xFF#8, 0x42#8, 0x00#8, 0x00#8, false, false, true, false, false, false⟩
      [(0x0100, 0x42#8)] = true := by decide

/-- PLA SP=$FF -/
theorem test_pla_imp :
    ends 4 ⟨0x0200#16, 0xFF#8, 0x00#8, 0x00#8, 0x00#8, false, false, true, false, false, false⟩
      [(0x0100, 0x80#8), (0x0200, 0x68#8)]
      ⟨0x0201#16, 0x00#8, 0x80#8, 0x00#8, 0x00#8, false, false, true, false, false, true⟩
      [] = true := by decide

/-- PHP power-on -/
theorem test_php_imp :
    ends 3 ⟨0x0200#16, 0xFD#8, 0x00#8, 0x00#8, 0x00#8, false, false, true, false, false, false⟩
      [(0x0200, 0x08#8)]
      ⟨0x0201#16, 0xFC#8, 0x00#8, 0x00#8, 0x00#8, false, false, true, false, false, false⟩
      [(0x01FD, 0x34#8)] = true := by decide

/-- PHP all set -/
theorem test_php_imp_2 :
    ends 3 ⟨0x0200#16, 0xFD#8, 0x00#8, 0x00#8, 0x00#8, true, true, true, true, true, true⟩
      [(0x0200, 0x08#8)]
      ⟨0x0201#16, 0xFC#8, 0x00#8, 0x00#8, 0x00#8, true, true, true, true, true, true⟩
      [(0x01FD, 0xFF#8)] = true := by decide

/-- PLP $FF -/
theorem test_plp_imp :
    ends 4 ⟨0x0200#16, 0xFC#8, 0x00#8, 0x00#8, 0x00#8, false, false, true, false, false, false⟩
      [(0x01FD, 0xFF#8), (0x0200, 0x28#8)]
      ⟨0x0201#16, 0xFD#8, 0x00#8, 0x00#8, 0x00#8, true, true, true, true, true, true⟩
      [] = true := by decide

/-- PLP $30 -/
theorem test_plp_imp_2 :
    ends 4 ⟨0x0200#16, 0xFC#8, 0x00#8, 0x00#8, 0x00#8, false, false, true, false, false, false⟩
      [(0x01FD, 0x30#8), (0x0200, 0x28#8)]
      ⟨0x0201#16, 0xFD#8, 0x00#8, 0x00#8, 0x00#8, false, false, false, false, false, false⟩
      [] = true := by decide

/-- BCC taken -/
theorem test_bcc_rel :
    ends 3 ⟨0x0200#16, 0xFD#8, 0x00#8, 0x00#8, 0x00#8, false, false, true, false, false, false⟩
      [(0x0200, 0x90#8), (0x0201, 0x10#8)]
      ⟨0x0212#16, 0xFD#8, 0x00#8, 0x00#8, 0x00#8, false, false, true, false, false, false⟩
      [] = true := by decide

/-- BCC taken cross -/
theorem test_bcc_rel_2 :
    ends 4 ⟨0x02F0#16, 0xFD#8, 0x00#8, 0x00#8, 0x00#8, false, false, true, false, false, false⟩
      [(0x02F0, 0x90#8), (0x02F1, 0x7F#8)]
      ⟨0x0371#16, 0xFD#8, 0x00#8, 0x00#8, 0x00#8, false, false, true, false, false, false⟩
      [] = true := by decide

/-- BNE back cross -/
theorem test_bne_rel :
    ends 4 ⟨0x0210#16, 0xFD#8, 0x00#8, 0x00#8, 0x00#8, false, false, true, false, false, false⟩
      [(0x0210, 0xD0#8), (0x0211, 0x80#8)]
      ⟨0x0192#16, 0xFD#8, 0x00#8, 0x00#8, 0x00#8, false, false, true, false, false, false⟩
      [] = true := by decide

/-- BEQ offset 0 -/
theorem test_beq_rel :
    ends 3 ⟨0x0200#16, 0xFD#8, 0x00#8, 0x00#8, 0x00#8, false, true, true, false, false, false⟩
      [(0x0200, 0xF0#8)]
      ⟨0x0202#16, 0xFD#8, 0x00#8, 0x00#8, 0x00#8, false, true, true, false, false, false⟩
      [] = true := by decide

/-- BMI taken -/
theorem test_bmi_rel :
    ends 3 ⟨0x0200#16, 0xFD#8, 0x00#8, 0x00#8, 0x00#8, false, false, true, false, false, true⟩
      [(0x0200, 0x30#8), (0x0201, 0x04#8)]
      ⟨0x0206#16, 0xFD#8, 0x00#8, 0x00#8, 0x00#8, false, false, true, false, false, true⟩
      [] = true := by decide

/-- BPL not -/
theorem test_bpl_rel :
    ends 2 ⟨0x0200#16, 0xFD#8, 0x00#8, 0x00#8, 0x00#8, false, false, true, false, false, true⟩
      [(0x0200, 0x10#8), (0x0201, 0x04#8)]
      ⟨0x0202#16, 0xFD#8, 0x00#8, 0x00#8, 0x00#8, false, false, true, false, false, true⟩
      [] = true := by decide

/-- BVS wrap -/
theorem test_bvs_rel :
    ends 4 ⟨0xFFF0#16, 0xFD#8, 0x00#8, 0x00#8, 0x00#8, false, false, true, false, true, false⟩
      [(0xFFF0, 0x70#8), (0xFFF1, 0x20#8)]
      ⟨0x0012#16, 0xFD#8, 0x00#8, 0x00#8, 0x00#8, false, false, true, false, true, false⟩
      [] = true := by decide

/-- BVC taken -/
theorem test_bvc_rel :
    ends 3 ⟨0x0200#16, 0xFD#8, 0x00#8, 0x00#8, 0x00#8, false, false, true, false, false, false⟩
      [(0x0200, 0x50#8), (0x0201, 0xFE#8)]
      ⟨0x0200#16, 0xFD#8, 0x00#8, 0x00#8, 0x00#8, false, false, true, false, false, false⟩
      [] = true := by decide

/-- BCS taken -/
theorem test_bcs_rel :
    ends 3 ⟨0x0200#16, 0xFD#8, 0x00#8, 0x00#8, 0x00#8, true, false, true, false, false, false⟩
      [(0x0200, 0xB0#8), (0x0201, 0x02#8)]
      ⟨0x0204#16, 0xFD#8, 0x00#8, 0x00#8, 0x00#8, true, false, true, false, false, false⟩
      [] = true := by decide

/-- JMP $1234 -/
theorem test_jmp_abs :
    ends 3 ⟨0x0200#16, 0xFD#8, 0x00#8, 0x00#8, 0x00#8, false, false, true, false, false, false⟩
      [(0x0200, 0x4C#8), (0x0201, 0x34#8), (0x0202, 0x12#8)]
      ⟨0x1234#16, 0xFD#8, 0x00#8, 0x00#8, 0x00#8, false, false, true, false, false, false⟩
      [] = true := by decide

/-- JMP ($10FF) -/
theorem test_jmp_ind :
    ends 5 ⟨0x0200#16, 0xFD#8, 0x00#8, 0x00#8, 0x00#8, false, false, true, false, false, false⟩
      [(0x0200, 0x6C#8), (0x0201, 0xFF#8), (0x0202, 0x10#8), (0x1000, 0x12#8), (0x10FF, 0x34#8), (0x1100, 0x56#8)]
      ⟨0x1234#16, 0xFD#8, 0x00#8, 0x00#8, 0x00#8, false, false, true, false, false, false⟩
      [] = true := by decide

/-- JSR $9000 @8000 -/
theorem test_jsr_abs :
    ends 6 ⟨0x8000#16, 0xFD#8, 0x00#8, 0x00#8, 0x00#8, false, false, true, false, false, false⟩
      [(0x8000, 0x20#8), (0x8002, 0x90#8)]
      ⟨0x9000#16, 0xFB#8, 0x00#8, 0x00#8, 0x00#8, false, false, true, false, false, false⟩
      [(0x01FD, 0x80#8), (0x01FC, 0x02#8)] = true := by decide

/-- RTS -/
theorem test_rts_imp :
    ends 6 ⟨0x0200#16, 0xFB#8, 0x00#8, 0x00#8, 0x00#8, false, false, true, false, false, false⟩
      [(0x01FC, 0x02#8), (0x01FD, 0x80#8), (0x0200, 0x60#8)]
      ⟨0x8003#16, 0xFD#8, 0x00#8, 0x00#8, 0x00#8, false, false, true, false, false, false⟩
      [] = true := by decide

/-- RTS $FFFF -/
theorem test_rts_imp_2 :
    ends 6 ⟨0x0200#16, 0xFB#8, 0x00#8, 0x00#8, 0x00#8, false, false, true, false, false, false⟩
      [(0x01FC, 0xFF#8), (0x01FD, 0xFF#8), (0x0200, 0x60#8)]
      ⟨0x0000#16, 0xFD#8, 0x00#8, 0x00#8, 0x00#8, false, false, true, false, false, false⟩
      [] = true := by decide

/-- JSR at SP=$00 -/
theorem test_jsr_abs_2 :
    ends 6 ⟨0x0200#16, 0x00#8, 0x00#8, 0x00#8, 0x00#8, false, false, true, false, false, false⟩
      [(0x0200, 0x20#8), (0x0202, 0x90#8)]
      ⟨0x9000#16, 0xFE#8, 0x00#8, 0x00#8, 0x00#8, false, false, true, false, false, false⟩
      [(0x0100, 0x02#8), (0x01FF, 0x02#8)] = true := by decide

/-- BRK -/
theorem test_brk_imp :
    ends 7 ⟨0x8000#16, 0xFD#8, 0x00#8, 0x00#8, 0x00#8, false, false, true, false, false, false⟩
      [(0x8001, 0xEA#8), (0xFFFF, 0x90#8)]
      ⟨0x9000#16, 0xFA#8, 0x00#8, 0x00#8, 0x00#8, false, false, true, false, false, false⟩
      [(0x01FD, 0x80#8), (0x01FC, 0x02#8), (0x01FB, 0x34#8)] = true := by decide

/-- BRK I=0 flags -/
theorem test_brk_imp_2 :
    ends 7 ⟨0x8000#16, 0xFD#8, 0x00#8, 0x00#8, 0x00#8, true, false, false, false, false, true⟩
      [(0xFFFF, 0x90#8)]
      ⟨0x9000#16, 0xFA#8, 0x00#8, 0x00#8, 0x00#8, true, false, true, false, false, true⟩
      [(0x01FB, 0xB1#8)] = true := by decide

/-- RTI -/
theorem test_rti_imp :
    ends 6 ⟨0x0200#16, 0xFA#8, 0x00#8, 0x00#8, 0x00#8, false, false, true, false, false, false⟩
      [(0x01FB, 0xC3#8), (0x01FC, 0x02#8), (0x01FD, 0x80#8), (0x0200, 0x40#8)]
      ⟨0x8002#16, 0xFD#8, 0x00#8, 0x00#8, 0x00#8, true, true, false, false, true, true⟩
      [] = true := by decide

/-- RTI $FFFF wrap -/
theorem test_rti_imp_2 :
    ends 6 ⟨0x0200#16, 0xFA#8, 0x00#8, 0x00#8, 0x00#8, false, false, true, false, false, false⟩
      [(0x01FC, 0xFF#8), (0x01FD, 0xFF#8), (0x0200, 0x40#8)]
      ⟨0xFFFF#16, 0xFD#8, 0x00#8, 0x00#8, 0x00#8, false, false, false, false, false, false⟩
      [] = true := by decide

/-- CLC -/
theorem test_clc_imp :
    ends 2 ⟨0x0200#16, 0xFD#8, 0x00#8, 0x00#8, 0x00#8, true, false, true, false, false, false⟩
      [(0x0200, 0x18#8)]
      ⟨0x0201#16, 0xFD#8, 0x00#8, 0x00#8, 0x00#8, false, false, true, false, false, false⟩
      [] = true := by decide

/-- SEC -/
theorem test_sec_imp :
    ends 2 ⟨0x0200#16, 0xFD#8, 0x00#8, 0x00#8, 0x00#8, false, false, true, false, false, false⟩
      [(0x0200, 0x38#8)]
      ⟨0x0201#16, 0xFD#8, 0x00#8, 0x00#8, 0x00#8, true, false, true, false, false, false⟩
      [] = true := by decide

/-- CLI -/
theorem test_cli_imp :
    ends 2 ⟨0x0200#16, 0xFD#8, 0x00#8, 0x00#8, 0x00#8, false, false, true, false, false, false⟩
      [(0x0200, 0x58#8)]
      ⟨0x0201#16, 0xFD#8, 0x00#8, 0x00#8, 0x00#8, false, false, false, false, false, false⟩
      [] = true := by decide

/-- SEI -/
theorem test_sei_imp :
    ends 2 ⟨0x0200#16, 0xFD#8, 0x00#8, 0x00#8, 0x00#8, false, false, false, false, false, false⟩
      [(0x0200, 0x78#8)]
      ⟨0x0201#16, 0xFD#8, 0x00#8, 0x00#8, 0x00#8, false, false, true, false, false, false⟩
      [] = true := by decide

/-- CLV -/
theorem test_clv_imp :
    ends 2 ⟨0x0200#16, 0xFD#8, 0x00#8, 0x00#8, 0x00#8, false, false, true, false, true, false⟩
      [(0x0200, 0xB8#8)]
      ⟨0x0201#16, 0xFD#8, 0x00#8, 0x00#8, 0x00#8, false, false, true, false, false, false⟩
      [] = true := by decide

/-- CLD -/
theorem test_cld_imp :
    ends 2 ⟨0x0200#16, 0xFD#8, 0x00#8, 0x00#8, 0x00#8, false, false, true, true, false, false⟩
      [(0x0200, 0xD8#8)]
      ⟨0x0201#16, 0xFD#8, 0x00#8, 0x00#8, 0x00#8, false, false, true, false, false, false⟩
      [] = true := by decide

/-- SED -/
theorem test_sed_imp :
    ends 2 ⟨0x0200#16, 0xFD#8, 0x00#8, 0x00#8, 0x00#8, false, false, true, false, false, false⟩
      [(0x0200, 0xF8#8)]
      ⟨0x0201#16, 0xFD#8, 0x00#8, 0x00#8, 0x00#8, false, false, true, true, false, false⟩
      [] = true := by decide

/-- NOP -/
theorem test_nop_imp :
    ends 2 ⟨0x0200#16, 0xFD#8, 0x00#8, 0x00#8, 0x00#8, false, false, true, false, false, false⟩
      [(0x0200, 0xEA#8)]
      ⟨0x0201#16, 0xFD#8, 0x00#8, 0x00#8, 0x00#8, false, false, true, false, false, false⟩
      [] = true := by decide

/-! ## The worked examples and scenarios of spec/95_test_vectors.md parts 1 and 3 -/

/-- The state a step leads to, or the state itself where it stops. -/
def after (s : State) : State :=
  match step s with
  | .next t => t
  | .fault _ => s
  | .refused _ => s

/-- A machine at an address with SP $FD, the given I, and the given bytes. -/
def machine (pc : Addr) (i : Bool) (cells : List Host.Cell) : State :=
  start { RegisterFile.powerOn with pc := pc, i := i } cells

/-- S2: STA $10 writes on its third clock, not before. -/
theorem test_store_on_last_clock :
    let s := start { RegisterFile.powerOn with pc := 0x0200#16, a := 0x99#8 } [(0x0200, 0x85#8), (0x0201, 0x10#8)]
    (clocks 2 s).readMem 0x0010#16 = 0x00#8 ∧ remainingCycles (clocks 2 s) = 1 ∧
      (clocks 3 s).readMem 0x0010#16 = 0x99#8 ∧ remainingCycles (clocks 3 s) = 0 ∧ (clocks 3 s).seq.phase = .idle := by
  decide

/-- S3: the bus trace of LDA $90FF,X with a page cross. -/
theorem test_trace_of_crossing_read :
    (after (start { RegisterFile.powerOn with pc := 0x8000#16, x := 1#8 }
      [(0x8000, 0xBD#8), (0x8001, 0xFF#8), (0x8002, 0x90#8), (0x9100, 0x77#8)])).bus.trace =
      [⟨5, .read, 0x9100#16, 0x77#8⟩, ⟨4, .dummyRead, 0x90FF#16, 0x00#8⟩, ⟨3, .read, 0x8002#16, 0x90#8⟩,
        ⟨2, .read, 0x8001#16, 0xFF#8⟩, ⟨1, .read, 0x8000#16, 0xBD#8⟩] := by decide

/-- S10: the vector load and the first instruction after it. -/
theorem test_first_instruction_after_reset :
    let s := loadResetVector { State.reset with
      mem := [(0x8000, 0xA9#8), (0x8001, 0x42#8), (0xFFFD, 0x80#8)] }
    s.regs.pc = 0x8000#16 ∧ s.bus.trace = [⟨0, .read, 0xFFFC#16, 0x00#8⟩, ⟨0, .read, 0xFFFD#16, 0x80#8⟩] ∧
      (after s).regs = { s.regs with pc := 0x8002#16, a := 0x42#8 } ∧ (after s).bus.now = 2 := by decide

/-- V1: the IRQ sequence. -/
theorem test_irq_sequence :
    let t := after { machine 0x8000#16 false [(0x8000, 0xEA#8), (0xFFFF, 0x90#8)] with irqIn := true }
    t.bus.trace =
      [⟨7, .read, 0xFFFF#16, 0x90#8⟩, ⟨6, .read, 0xFFFE#16, 0x00#8⟩, ⟨5, .write, 0x01FB#16, 0x20#8⟩,
        ⟨4, .write, 0x01FC#16, 0x00#8⟩, ⟨3, .write, 0x01FD#16, 0x80#8⟩, ⟨2, .dummyRead, 0x8000#16, 0xEA#8⟩,
        ⟨1, .dummyRead, 0x8000#16, 0xEA#8⟩] ∧
      t.regs.pc = 0x9000#16 ∧ t.regs.sp = 0xFA#8 ∧ t.regs.i = true := by decide

/-- V3: NMI and IRQ at the same Idle clock. -/
theorem test_nmi_beats_irq :
    let s := triggerNmi (triggerNmi (assertIrqLine
      (machine 0x8000#16 false [(0x8000, 0xEA#8), (0xA000, 0xEA#8), (0xFFFB, 0xA0#8)])))
    let t := after s
    t.regs.pc = 0xA000#16 ∧ t.regs.i = true ∧ t.latches.nmiPending = false ∧ t.readMem 0x01FB#16 = 0x20#8 ∧
      (after t).regs.pc = 0xA001#16 := by decide

/-- V4: an NMI edge during BRK is taken after its seventh clock. -/
theorem test_nmi_during_brk :
    let s := machine 0x8000#16 true [(0xFFFB, 0xA0#8), (0xFFFF, 0x90#8)]
    let t := clocks 5 (triggerNmi (clocks 2 s))
    t.regs.pc = 0x9000#16 ∧ t.seq.phase = .idle ∧ t.readMem 0x01FB#16 = 0x34#8 ∧ (after t).regs.pc = 0xA000#16 ∧
      (after t).regs.sp = 0xF7#8 ∧ (after t).readMem 0x01F8#16 = 0x24#8 := by decide

/-- V6: after CLI an asserted IRQ comes before the next instruction. -/
theorem test_cli_lets_irq_in :
    let s := assertIrqLine (machine 0x8000#16 true [(0x8000, 0x58#8), (0x8001, 0xEA#8), (0xFFFF, 0x90#8)])
    (after s).regs.i = false ∧ (after (after s)).regs.pc = 0x9000#16 ∧
      (after (after s)).readMem 0x01FC#16 = 0x01#8 := by decide

/-- V7: a stall in the middle of LDA $0300. -/
theorem test_stall_inside_instruction :
    let s := machine 0x0200#16 true [(0x0200, 0xAD#8), (0x0202, 0x03#8), (0x0300, 0x42#8)]
    let t := match addStall 3 (clocks 2 s) with
      | .next t => t
      | _ => s
    clocks 3 t = { clocks 2 s with bus := { (clocks 2 s).bus with now := 5 } } ∧ (clocks 5 t).regs.a = 0x42#8 ∧
      (clocks 5 t).bus.trace.length = 4 := by decide

/-- V8: an IRQ pulse inside a stall is never seen. -/
theorem test_irq_pulse_inside_stall :
    let s := { assertIrqLine (machine 0x8000#16 false [(0x8000, 0xEA#8)]) with stallCycles := 2 }
    (clocks 2 (deassertIrqLine (clock s))).seq.mnemonic = .nop ∧
      (clocks 2 (deassertIrqLine (clock s))).seq.phase = .exec := by decide

/-- V10: an illegal opcode. -/
theorem test_illegal_opcode :
    let s := machine 0x0200#16 true [(0x0200, 0xFF#8)]
    (clock s).halted = some (.unknownOpcode 0xFF#8 0x0200#16) ∧
      (clock s).bus.trace = [⟨1, .read, 0x0200#16, 0xFF#8⟩] ∧ clocks 3 (clock s) = clock s := by decide

/-- V11: INC $10 with DUMMY_BUS = none. -/
theorem test_no_dummy_bus :
    (after { machine 0x0200#16 true [(0x0200, 0xE6#8), (0x0201, 0x10#8)] with config := ⟨.none, none⟩ }).bus =
      ⟨5, [⟨5, .write, 0x0010#16, 0x01#8⟩, ⟨3, .read, 0x0010#16, 0x00#8⟩, ⟨2, .read, 0x0201#16, 0x10#8⟩,
        ⟨1, .read, 0x0200#16, 0xE6#8⟩], []⟩ := by decide

/-- V12: the stack wraps inside its page in an interrupt. -/
theorem test_interrupt_stack_wrap :
    let t := after { start { RegisterFile.powerOn with pc := 0x1234#16, sp := 0x01#8, i := false } [] with irqIn := true }
    t.readMem 0x0101#16 = 0x12#8 ∧ t.readMem 0x0100#16 = 0x34#8 ∧ t.readMem 0x01FF#16 = 0x20#8 ∧ t.regs.sp = 0xFE#8 := by
  decide

/-- A device behind the Bus answers a read with a value memory does not hold (R63), at its clock only. -/
theorem test_device_answer :
    let s := machine 0x0200#16 true [(0x0200, 0xAD#8), (0x0201, 0x02#8), (0x0202, 0x20#8)]
    (after { s with bus := ⟨0, [], [⟨4, 0x2002#16, 0x80#8⟩]⟩ }).regs.a = 0x80#8 ∧
      (after { s with bus := ⟨0, [], [⟨3, 0x2002#16, 0x80#8⟩]⟩ }).regs.a = 0x00#8 := by decide

/-- A combination the table does not hold, in flight in a state no run reaches, is a fault of its own name (R311). -/
theorem test_unsupported_mode_faults :
    (clock { State.reset with seq := ⟨.exec, 1, .ldx, .izy, none, none, none, false, 5⟩ }).halted =
      some (.unsupportedAddressingMode .ldx .izy) ∧
      (Fault.unsupportedAddressingMode .ldx .izy).causeCode = some 2 := by decide

/-- An unset latch and a missing row, in states no run reaches, are faults of their own names (R39, log 9). -/
theorem test_unreachable_rows_fault :
    (clock { State.reset with seq := ⟨.exec, 2, .lda, .zp, none, none, none, false, 3⟩ }).halted = some .unsetField ∧
      (clock { State.reset with seq := ⟨.exec, 5, .lda, .zp, none, none, none, false, 3⟩ }).halted = some .noSuchRow := by
  decide

/-- The host's view: LDA #$00 of the table word, placed and run from reset. -/
theorem test_table_word :
    decodeTableWord 8 0xA9 = some (.ldaImm 0x00#8) ∧ decodeTableWord 16 0x42A9 = some (.ldaImm 0x42#8) ∧
      (after (State.reset.withFetchWord 16 0x42A9)).regs.a = 0x42#8 := by decide

/-! ## Witnesses: concrete states that meet the hypotheses of each statement -/

/-- A NOP at $8000, ready to run. -/
def nopAt : State := machine 0x8000#16 true [(0x8000, 0xEA#8)]

theorem witness_EncodeOfDecodeIsTheBytes :
    decode [0xA9#8, 0x42#8, 0x99#8] = .ok (.ldaImm 0x42#8, [0x99#8]) ∧
      decode [0x6C#8, 0xFF#8, 0xFF#8] = .ok (.jmpInd 0xFFFF#16, []) := by decide

/-- Bytes at the borders of the list: $02 and $FF are in it, $00 and $FE are not. -/
theorem witness_IllegalBytesAreRefusedByName :
    lookup 0x02#8 = none ∧ lookup 0xFF#8 = none ∧ lookup 0x00#8 = some ⟨.brk, .imp, 7⟩ ∧
      lookup 0xFE#8 = some ⟨.inc, .abx, 7⟩ := by decide

theorem witness_StepRunsTheFetchedInstruction :
    Ready nopAt ∧ decode (fetchedBytes nopAt) = .ok (.nop, [0#8, 0#8]) :=
  ⟨⟨rfl, rfl, rfl, rfl, rfl⟩, by decide⟩

/-- An asserted IRQ level with I = 1 is ready too, and so is PC = $FFFF, whose operand bytes lie at $0000 and $0001. -/
theorem witness_StepRunsTheFetchedInstruction_borders :
    Ready (assertIrqLine nopAt) ∧
      (Ready (machine 0xFFFF#16 true [(0x0000, 0x34#8), (0x0001, 0x12#8), (0xFFFF, 0x4C#8)]) ∧
        decode (fetchedBytes (machine 0xFFFF#16 true [(0x0000, 0x34#8), (0x0001, 0x12#8), (0xFFFF, 0x4C#8)])) =
          .ok (.jmpAbs 0x1234#16, [])) :=
  ⟨⟨rfl, rfl, rfl, rfl, rfl⟩, ⟨rfl, rfl, rfl, rfl, rfl⟩, by decide⟩

theorem witness_UnindexedReadSequences :
    kindOf (Instr.adcImm 0xFF#8).mnemonic = .read ∧ applyOf (Instr.adcImm 0xFF#8).mnemonic = some applyAdc ∧
      formOf (.adcImm 0xFF#8) = some (.imm 0xFF#8) ∧ formOf (.adcZp 0xFF#8) = some (.zp 0xFF#8) ∧
      formOf (.adcAbs 0xFFFF#16) = some (.abs 0xFFFF#16) :=
  ⟨rfl, rfl, rfl, rfl, by decide⟩

theorem witness_UnindexedWriteSequences :
    kindOf (Instr.staZp 0xFF#8).mnemonic = .write ∧ storeOf (Instr.staZp 0xFF#8).mnemonic = some storeSta ∧
      formOf (.staZp 0xFF#8) = some (.zp 0xFF#8) ∧ formOf (.staAbs 0xFFFF#16) = some (.abs 0xFFFF#16) :=
  ⟨rfl, rfl, rfl, by decide⟩

/-- In the order of the clauses: halted; stalled; NMI; unmasked IRQ; masked IRQ with a known and with an unknown opcode;
in flight. -/
theorem witness_ArbitrationOrder :
    (clock { nopAt with halted := some (.unknownOpcode 0x02#8 0#16) }).halted = some (.unknownOpcode 0x02#8 0#16) ∧
      ({ nopAt with stallCycles := 1 } : State).stallCycles ≠ 0 ∧
      (triggerNmi nopAt).latches.nmiPending = true ∧ (triggerNmi nopAt).seq.phase = .idle ∧
      (assertIrqLine (machine 0x8000#16 false [])).irqIn = true ∧ (machine 0x8000#16 false []).regs.i = false ∧
      (assertIrqLine nopAt).regs.i = true ∧ lookup (instrByte 0 nopAt) = some ⟨.nop, .imp, 2⟩ ∧
      lookup (instrByte 0 (machine 0x8000#16 true [(0x8000, 0x02#8)])) = none ∧
      (clock nopAt).seq.phase ≠ .idle ∧ (clock nopAt).halted = none := by decide

theorem witness_NmiIsTakenWhateverIHolds :
    let s := triggerNmi (assertIrqLine (machine 0x8000#16 false []))
    s.halted = none ∧ s.stallCycles = 0 ∧ s.seq.phase = .idle ∧ s.latches.nmiPending = true := by decide

theorem witness_IrqIsTakenWhenUnmasked :
    let s := assertIrqLine (machine 0x8000#16 false [])
    s.halted = none ∧ s.stallCycles = 0 ∧ s.seq.phase = .idle ∧ s.latches.nmiPending = false ∧ s.irqIn = true ∧
      s.regs.i = false := by decide

/-- A JSR at SP = $00, whose second push wraps to $01FF, then a state in which the body has pushed a byte of its own
below and pulled it again. -/
theorem witness_JsrThenRtsReturns :
    ∃ t, exec (.jsr 0x9000#16) (start { RegisterFile.powerOn with pc := 0x8000#16, sp := 0x00#8 } []) = .next t ∧
      let u := { t with mem := Memory.write t.mem 0x01FE 0x55#8 }
      u.regs.sp = t.regs.sp ∧ valueAt 5 0x0100#16 u = t.readMem 0x0100#16 ∧
        valueAt 4 0x01FF#16 u = t.readMem 0x01FF#16 ∧ u.readMem 0x01FE#16 ≠ t.readMem 0x01FE#16 :=
  ⟨_, rfl, by decide⟩

/-- The entry of an NMI, of an IRQ and of a BRK at SP = $01, each with a later state in which the handler has pushed a
byte of its own below and pulled it again. -/
theorem witness_RtiUndoesInterruptEntry :
    let s := start { RegisterFile.powerOn with pc := 0x8000#16, sp := 0x01#8 } []
    let pushed : State → Prop := fun t =>
      let u := { t with mem := Memory.write t.mem 0x01FE 0x55#8 }
      u.regs.sp = t.regs.sp ∧ valueAt 6 0x0101#16 u = t.readMem 0x0101#16 ∧
        valueAt 5 0x0100#16 u = t.readMem 0x0100#16 ∧ valueAt 4 0x01FF#16 u = t.readMem 0x01FF#16
    pushed (takeNmi s) ∧ pushed (takeIrq s) ∧ ∃ t, exec .brk s = .next t ∧ pushed t :=
  ⟨by decide, by decide, _, rfl, by decide⟩

/-- CLI, SEI before a NOP, PLP and RTI with a pulled byte of 0; then PLP and RTI with a pulled I of 1, each before a
NOP at $8001. -/
theorem witness_ChangeOfIGovernsTheNextIdleClock :
    let s := assertIrqLine (machine 0x8000#16 true [(0x8001, 0xEA#8)])
    let m := assertIrqLine (machine 0x8000#16 true [(0x8001, 0xEA#8), (0x01FE, 0x04#8), (0x01FF, 0x01#8), (0x0100, 0x80#8)])
    let pulled : State → Byte := fun s => valueAt 4 (0x01#8 ++ (s.regs.sp + 1#8)) s
    ((s.halted = none ∧ s.stallCycles = 0 ∧ s.latches.nmiPending = false ∧ s.irqIn = true) ∧
      (∃ t, exec .cli s = .next t) ∧
      (∃ t, exec .sei s = .next t ∧ decode (fetchedBytes t) = .ok (.nop, [0#8, 0#8])) ∧ (∃ t, exec .plp s = .next t) ∧
      (∃ t, exec .rti s = .next t) ∧ (pulled s).getLsbD 2 = false) ∧
    (m.halted = none ∧ m.stallCycles = 0 ∧ m.latches.nmiPending = false ∧ m.irqIn = true) ∧
      (∃ t, exec .plp m = .next t ∧ decode (fetchedBytes t) = .ok (.nop, [0#8, 0#8])) ∧
      (∃ t, exec .rti m = .next t ∧ decode (fetchedBytes t) = .ok (.nop, [0#8, 0#8])) ∧ (pulled m).getLsbD 2 = true :=
  ⟨⟨by decide, ⟨_, rfl⟩, ⟨_, rfl, by decide⟩, ⟨_, rfl⟩, ⟨_, rfl⟩, by decide⟩, by decide, ⟨_, rfl, by decide⟩,
    ⟨_, rfl, by decide⟩, by decide⟩

/-- A stall that just fits two bits and one that just does not; an Idle core and one in flight. -/
theorem witness_HostCallsChangeOnlyTheirField :
    let s := { nopAt with config := ⟨.full, some 2⟩ }
    s.halted = none ∧ s.config.stallFits (s.stallCycles + 3) = true ∧ s.config.stallFits (s.stallCycles + 4) = false ∧
      s.seq.phase = .idle ∧ (clock s).halted = none ∧ (clock s).seq.phase ≠ .idle := by decide

theorem witness_StallFreezesTheCore :
    let s := { nopAt with stallCycles := 3 }
    s.halted = none ∧ 0 ≤ s.stallCycles ∧ 3 ≤ s.stallCycles := by decide

theorem witness_HaltedStaysHalted :
    ({ nopAt with halted := some (.unknownOpcode 0x02#8 0x8000#16) } : State).halted =
      some (.unknownOpcode 0x02#8 0x8000#16) := rfl

theorem witness_UnknownOpcodeHalts :
    let s := machine 0x8000#16 true [(0x8000, 0x02#8)]
    Ready s ∧ lookup (instrByte 0 s) = none :=
  ⟨⟨rfl, rfl, rfl, rfl, rfl⟩, by decide⟩

theorem witness_ResetStateHoldsTheSpecValues : State.reset.halted = none := rfl

/-- A whole instruction from Idle, and one clock of an instruction in flight. -/
theorem witness_StepKeepsTheInvariant :
    nopAt.wf = true ∧ isNext (step nopAt) = true ∧ (clock nopAt).wf = true ∧ isNext (step (clock nopAt)) = true := by
  decide

theorem witness_ClocksAndHostCallsKeepTheInvariant :
    nopAt.wf = true ∧ (∃ t, addStall 3 nopAt = .next t) ∧ ∃ t, restore RegisterFile.powerOn nopAt = .next t :=
  ⟨by decide, ⟨_, rfl⟩, ⟨_, rfl⟩⟩

theorem witness_NoOtherExceptionExists :
    let s := machine 0x8000#16 true [(0x8000, 0x02#8)]
    s.wf = true ∧ s.halted = none ∧ step s = .fault (.unknownOpcode 0x02#8 0x8000#16) ∧
      (clock s).halted = some (.unknownOpcode 0x02#8 0x8000#16) :=
  ⟨by decide, rfl, rfl, by decide⟩

/-- A NOP of two clocks, after its first. -/
theorem witness_ExecIsItsClocks :
    Ready nopAt ∧ decode (fetchedBytes nopAt) = .ok (.nop, [0#8, 0#8]) ∧ 1 < clocksOf .nop nopAt :=
  ⟨⟨rfl, rfl, rfl, rfl, rfl⟩, by decide, by decide⟩

theorem witness_RemainingCyclesCountDown :
    nopAt.wf = true ∧ Ready nopAt ∧ lookup (instrByte 0 nopAt) = some ⟨.nop, .imp, 2⟩ ∧ (clock nopAt).wf = true ∧
      (clock nopAt).halted = none ∧ (clock nopAt).stallCycles = 0 ∧ (clock nopAt).seq.phase ≠ .idle :=
  ⟨by decide, ⟨rfl, rfl, rfl, rfl, rfl⟩, by decide, by decide, by decide, by decide, by decide⟩

/-- The clocks that earn an extension: T2 and T3 of BNE with offset $FE at $80FE (taken, then across a page), and T3 of LDA
$90FF,X with X = 1, which crosses; T3 of the same load with X = 0 earns none. -/
theorem witness_RemainingCyclesCountDown_extensions :
    let b := clock (machine 0x80FE#16 true [(0x80FE, 0xD0#8), (0x80FF, 0xFE#8)])
    let load : Byte → State := fun x =>
      clocks 2 (start { RegisterFile.powerOn with pc := 0x8000#16, x := x }
        [(0x8000, 0xBD#8), (0x8001, 0xFF#8), (0x8002, 0x90#8)])
    (b.wf = true ∧ b.seq.mode = .rel ∧ b.seq.t = 1 ∧ branchCond b.seq.mnemonic b.regs = some true) ∧
      ((clock b).wf = true ∧ (clock b).seq.crossed = false ∧ (clock (clock b)).seq.crossed = true) ∧
      ((load 1#8).wf = true ∧ kindOf (load 1#8).seq.mnemonic = .read ∧ (load 1#8).seq.mode = .abx ∧
        (load 1#8).seq.crossed = false ∧ (clock (load 1#8)).seq.crossed = true) ∧
      ((load 0#8).wf = true ∧ (clock (load 0#8)).seq.crossed = false) := by decide

/-- A halted, a stalled and a running core that meet the invariant. -/
theorem witness_OneAccessPerClock :
    ({ nopAt with halted := some (.unknownOpcode 0x02#8 0#16) } : State).wf = true ∧
      ({ nopAt with stallCycles := 1 } : State).wf = true ∧ nopAt.wf = true ∧ nopAt.halted = none ∧
      nopAt.stallCycles = 0 := by decide

theorem witness_DummyAccessesChangeOnlyTheRecord : nopAt.seq.phase = .idle ∧ ∃ t, step nopAt = .next t :=
  ⟨rfl, _, rfl⟩

/-- A store in flight, two clocks before its write. -/
theorem witness_RegistersChangeOnlyOnTheLastClock :
    let s := clock (machine 0x0200#16 true [(0x0200, 0x85#8), (0x0201, 0x10#8)])
    (clock s).seq.phase ≠ .idle ∧ s.seq.phase = .exec ∧ kindOf s.seq.mnemonic = .write := by decide

/-- NOP writes none of the registers and flags. -/
theorem witness_OnlyTheListedInstructionsWrite :
    (∃ t, exec .nop nopAt = .next t) ∧ Instr.nop.mode ≠ .acc ∧
      Instr.nop.mnemonic ∉ [Mnemonic.lda, .pla, .txa, .tya, .adc, .sbc, .and, .ora, .eor] ∧
      Instr.nop.mnemonic ∉ [Mnemonic.adc, .sbc, .cmp, .cpx, .cpy, .asl, .rol, .lsr, .ror, .clc, .sec, .plp, .rti] :=
  ⟨⟨_, rfl⟩, by decide, by decide, by decide⟩

/-- A form of each clause of the page-cross check. -/
theorem witness_EveryInstructionCompletes :
    formOf (.staAbx 0x90FF#16) = some (.abx 0x90FF#16) ∧ formOf (.ldaIzy 0xFF#8) = some (.izy 0xFF#8) ∧
      formOf (.incZp 0xFF#8) = some (.zp 0xFF#8) ∧ kindOf (Instr.incZp 0xFF#8).mnemonic ≠ .other := by decide

theorem witness_DecimalFlagIsInert :
    (Instr.adcImm 0x01#8).mnemonic ∉ [Mnemonic.php, .brk, .cld, .sed, .plp, .rti] ∧
      ∃ t, exec (.adcImm 0x01#8) nopAt = .next t :=
  ⟨by decide, _, rfl⟩

/-- A store into the byte after itself, the first clause at k = 0 and the second at k = 1. -/
theorem witness_StoreIsSeenByTheNextFetch :
    (∃ t, exec (.staAbs 0x8003#16) nopAt = .next t) ∧ nopAt.bus.answers = [] ∧
      nopAt.regs.pc + 3#16 + BitVec.ofNat 16 0 = 0x8003#16 ∧ nopAt.regs.pc + 3#16 + BitVec.ofNat 16 1 ≠ 0x8003#16 :=
  ⟨⟨_, rfl⟩, rfl, by decide, by decide⟩

end Sys2Proof.Tests
end

section
/-! The two JMP instructions (R269): each opcode's arm of the dispatch runs its form after the decode clock, and the
laws of the two forms give the whole effect. -/

namespace Sys2Proof.Machine

open Sys2Proof

theorem exec_jmpAbs (target : Addr) (s : State) :
    exec (.jmpAbs target) s = jumpAbs target (decodeClock 0x4C#8 ⟨.jmp, .abs, 3⟩ s) := rfl

theorem exec_jmpInd (ptr : Addr) (s : State) :
    exec (.jmpInd ptr) s = jumpInd ptr (decodeClock 0x6C#8 ⟨.jmp, .ind, 5⟩ s) := rfl

/-- JMP absolute, clock by clock (R161). -/
theorem jmpAbs_completes (target : Addr) (s : State) :
    Completes (.jmpAbs target) s
      [(.read, s.regs.pc, 0x4C#8), (.read, s.regs.pc + 1#16, lo target), (.read, s.regs.pc + 2#16, hi target)]
      { s.regs with pc := target } s.readMem := by
  rw [Completes, exec_jmpAbs]
  exact jumpAbs_completes 0x4C#8 ⟨.jmp, .abs, 3⟩ s target

/-- JMP (indirect), clock by clock (R162); the pointer's high byte is read inside the pointer's page (R97). -/
theorem jmpInd_completes (ptr : Addr) (s : State) :
    Completes (.jmpInd ptr) s
      [(.read, s.regs.pc, 0x6C#8), (.read, s.regs.pc + 1#16, lo ptr), (.read, s.regs.pc + 2#16, hi ptr),
        (.read, ptr, valueAt 4 ptr s), (.read, pointerHigh ptr, valueAt 5 (pointerHigh ptr) s)]
      { s.regs with pc := w16 (valueAt 5 (pointerHigh ptr) s) (valueAt 4 ptr s) } s.readMem := by
  rw [Completes, exec_jmpInd]
  exact jumpInd_completes 0x6C#8 ⟨.jmp, .ind, 5⟩ s ptr

/-- Settles O26: each JMP has its encoding by definition and its effect by the law of its form; the obligation writes
`w16` and `pointerHigh` out as appends. -/
theorem jmpLoadsPc : Obligations.JmpLoadsPc := by
  intro s target ptr pc high
  constructor
  · exact ⟨rfl, jmpAbs_completes target s⟩
  · exact ⟨rfl, jmpInd_completes ptr s⟩

end Sys2Proof.Machine
end

section
/-! The decode table and the decoder, read backwards (R99, R107): what every entry of the table has, and which bytes
decode to an instruction. -/

namespace Sys2Proof.Machine

open Sys2Proof

/-- The clocks of a sequence that earns no extension, T1 included: the table's count of every opcode that runs it. -/
def Sequence.baseClocks : Sequence → Nat
  | .implied | .accumulator | .immediate | .branch => 2
  | .zpR | .zpW | .jmpAbs | .push => 3
  | .zpIndexedR | .zpIndexedW | .absR | .absW | .absIndexedR | .pull => 4
  | .zpM | .absIndexedW | .izyR | .jmpInd => 5
  | .zpIndexedM | .absM | .izxR | .izxW | .izyW | .jsr | .rts | .rti => 6
  | .absIndexedM | .brk => 7

/-- The mnemonic has the function that the rows of the sequence call (R137). -/
def Sequence.hasFunction (q : Sequence) (mn : Mnemonic) : Bool :=
  match q with
  | .immediate | .zpR | .zpIndexedR | .absR | .absIndexedR | .izxR | .izyR | .pull => (applyOf mn).isSome
  | .zpW | .zpIndexedW | .absW | .absIndexedW | .izxW | .izyW | .push => (storeOf mn).isSome
  | .accumulator | .zpM | .zpIndexedM | .absM | .absIndexedM => (modifyOf mn).isSome
  | .implied => (execOf mn).isSome
  | .branch => (condOf mn).isSome
  | .jmpAbs | .jmpInd | .jsr | .rts | .brk | .rti => true

/-- The table holds the entry (R99). -/
def InTable (e : Entry) : Prop := ∃ row ∈ opcodeMap, some e ∈ row

/-- Every entry of the table names a sequence, with its count and a function for its rows. -/
theorem sequence_of_inTable {e : Entry} (h : InTable e) :
    ∃ q, sequenceOf e.mnemonic e.mode = some q ∧ e.cycles = q.baseClocks ∧ q.hasFunction e.mnemonic = true := by
  have key : ∀ row ∈ opcodeMap, ∀ o ∈ row, (o.all fun e => (sequenceOf e.mnemonic e.mode).any fun q =>
      e.cycles == q.baseClocks && q.hasFunction e.mnemonic) = true := by decide
  obtain ⟨row, hrow, he⟩ := h
  simpa [Option.any_eq_true] using key row hrow _ he

theorem inTable_of_lookup {op : Byte} {e : Entry} (h : lookup op = some e) : InTable e := by
  have hmem := List.mem_of_getElem? (Option.join_eq_some_iff.mp h)
  rcases hrow : opcodeMap[op.toNat / 16]? with _ | row
  · simp [hrow] at hmem
  · exact ⟨row, List.mem_of_getElem? hrow, by simpa [hrow] using hmem⟩

theorem inTable_of_tableCycles {mn : Mnemonic} {mode : Mode} {n : Nat} (h : tableCycles mn mode = some n) :
    InTable ⟨mn, mode, n⟩ := by
  obtain ⟨row, hrow, h⟩ := List.exists_of_findSome?_eq_some h
  obtain ⟨o, ho, h⟩ := List.exists_of_findSome?_eq_some h
  rcases o with _ | ⟨mn', mode', n'⟩
  · cases h
  · simp only [Option.ite_none_right_eq_some, Option.some.injEq] at h
    obtain ⟨⟨rfl, rfl⟩, rfl⟩ := h
    exact ⟨row, hrow, ho⟩

/-- The assembled instruction has the operand bytes it was made of, and its opcode does not depend on them (R92). -/
theorem assemble_spec {mn : Mnemonic} {mode : Mode} {b1 b2 : Byte} {i : Instr} (h : assemble mn mode b1 b2 = some i) :
    i.operands = [b1, b2].take (mode.length - 1) ∧
      (assemble mn mode 0#8 0#8).map Instr.opcode = some i.opcode := by
  cases mn <;> simp only [assemble] at h <;> split at h <;> cases h <;>
    simp [Instr.operands, Mode.length, assemble, Instr.opcode]

/-- The encoder gives an instruction of a table entry the byte the entry stands at (R99). -/
theorem lookup_encodes : ∀ op : Byte,
    ((lookup op).all fun e => (assemble e.mnemonic e.mode 0#8 0#8).map Instr.opcode == some op) = true := by
  decide

/-- The bytes at PC of a decoded instruction are its opcode and its operand bytes. -/
theorem instrByte_of_decode {s : State} {i : Instr} {rest : List Byte} (h : decode (fetchedBytes s) = .ok (i, rest)) :
    instrByte 0 s = i.opcode ∧ ∀ k b, i.operands[k]? = some b → instrByte (k + 1) s = b := by
  simp only [fetchedBytes, decode, decodeBytes] at h
  split at h
  · cases h
  next e he =>
  split at h
  · cases h
  simp only at h
  split at h
  · cases h
  next j hj =>
  cases h
  split at hj
  · cases hj
  next ha =>
  cases hj
  obtain ⟨hops, hop⟩ := assemble_spec ha
  have henc := lookup_encodes (instrByte 0 s)
  simp only [he, Option.all_some, beq_iff_eq, hop, Option.some.injEq] at henc
  refine ⟨henc.symm, fun k b hb => ?_⟩
  rw [hops, List.getElem?_take] at hb
  split at hb
  · match k, hb with
    | 0, hb => exact Option.some.inj hb
    | 1, hb => exact Option.some.inj hb
  · cases hb

end Sys2Proof.Machine
end

section
/-! The operand forms by access kind: the instructions of a kind are one form each, run with the function of the
mnemonic (R92, R101, R137). -/

namespace Sys2Proof.Machine

open Sys2Proof

/-- The mode of a form (R92). -/
def Form.mode : Form → Mode
  | .imm _ => .imm
  | .zp _ => .zp
  | .zpx _ => .zpx
  | .zpy _ => .zpy
  | .abs _ => .abs
  | .abx _ => .abx
  | .aby _ => .aby
  | .izx _ => .izx
  | .izy _ => .izy

/-- The meaning of an R-kind instruction in a form, after T1. -/
def readForm (ap : Apply) : Form → State → Result
  | .imm v => readImm ap v
  | .zp p => readZp ap p
  | .zpx p => readZpx ap p
  | .zpy p => readZpy ap p
  | .abs a => readAbs ap a
  | .abx base => readAbx ap base
  | .aby base => readAby ap base
  | .izx p => readIzx ap p
  | .izy p => readIzy ap p

/-- The address clocks of a W-kind or M-kind form, after T1: the effective address with the state. An immediate has
none. -/
def Form.address : Form → State → Addr × State
  | .imm _, s => (s.regs.pc, s)
  | .zp p, s => addrZp p s
  | .zpx p, s => addrZpIndexed p s.regs.x s
  | .zpy p, s => addrZpIndexed p s.regs.y s
  | .abs a, s => addrAbs a s
  | .abx base, s => (base + zext16 s.regs.x, fixup base (base + zext16 s.regs.x) (addrAbsChecked base s.regs.x s).2)
  | .aby base, s => (base + zext16 s.regs.y, fixup base (base + zext16 s.regs.y) (addrAbsChecked base s.regs.y s).2)
  | .izx p, s => addrIzx p s
  | .izy p, s =>
    let r := addrIzyBase p s
    (r.1 + zext16 s.regs.y, fixup r.1 (r.1 + zext16 s.regs.y) r.2)

/-- The meaning of a W-kind instruction in a form, after T1. -/
def writeForm (value : RegisterFile → Byte) (f : Form) (s : State) : Result :=
  .next (writeFinal (value (f.address s).2.regs) (f.address s).1 (f.address s).2)

/-- The meaning of an M-kind instruction in a form, after T1. -/
def modifyForm (modify : Modify) (f : Form) (s : State) : Result :=
  .next (rmwFinal modify (f.address s).1 (f.address s).2)

/-- One arm of `exec` per R-kind instruction: its form, run with its mnemonic's function. -/
theorem exec_read {i : Instr} {f : Form} {ap : Apply} (s : State) (hk : kindOf i.mnemonic = .read)
    (ha : applyOf i.mnemonic = some ap) (hf : formOf i = some f) :
    exec i s = readForm ap f (decodeClock i.opcode i.entry s) := by
  cases i <;> cases hk <;> cases ha <;> cases hf <;> (simp only [readForm, w16_hi_lo]; rfl)

theorem exec_write {i : Instr} {f : Form} {value : RegisterFile → Byte} (s : State) (hk : kindOf i.mnemonic = .write)
    (ha : storeOf i.mnemonic = some value) (hf : formOf i = some f) :
    exec i s = writeForm value f (decodeClock i.opcode i.entry s) := by
  cases i <;> cases hk <;> cases ha <;> cases hf <;> (simp only [writeForm, w16_hi_lo]; rfl)

theorem exec_modify {i : Instr} {f : Form} {modify : Modify} (s : State) (ha : modifyOf i.mnemonic = some modify)
    (hf : formOf i = some f) : exec i s = modifyForm modify f (decodeClock i.opcode i.entry s) := by
  cases i <;> cases ha <;> cases hf <;> (simp only [modifyForm, w16_hi_lo]; rfl)

theorem exec_accumulator {i : Instr} {modify : Modify} (s : State) (ha : modifyOf i.mnemonic = some modify)
    (hm : i.mode = .acc) : exec i s = modifyAcc modify (decodeClock i.opcode i.entry s) := by
  cases i <;> cases ha <;> cases hm <;> rfl

theorem exec_implied {i : Instr} {f : RegisterFile → RegisterFile} (s : State) (ha : execOf i.mnemonic = some f) :
    exec i s = implied f (decodeClock i.opcode i.entry s) := by
  cases i <;> cases ha <;> rfl

theorem exec_push {i : Instr} {value : RegisterFile → Byte} (s : State) (hk : kindOf i.mnemonic = .other)
    (ha : storeOf i.mnemonic = some value) : exec i s = pushForm value (decodeClock i.opcode i.entry s) := by
  cases i <;> cases hk <;> cases ha <;> rfl

theorem exec_pull {i : Instr} {ap : Apply} (s : State) (hk : kindOf i.mnemonic = .other)
    (ha : applyOf i.mnemonic = some ap) : exec i s = pullForm ap (decodeClock i.opcode i.entry s) := by
  cases i <;> cases hk <;> cases ha <;> rfl

theorem exec_branch {i : Instr} {cond : RegisterFile → Bool} (s : State) (ha : condOf i.mnemonic = some cond) :
    ∃ offset, i.operands = [offset] ∧ exec i s = branch cond offset (decodeClock i.opcode i.entry s) := by
  cases i <;> cases ha <;> exact ⟨_, rfl, rfl⟩

/-- A form determines the mode and the operand bytes. -/
theorem formOf_spec {i : Instr} {f : Form} (hf : formOf i = some f) : i.mode = f.mode ∧ i.operands = f.bytes := by
  unfold formOf at hf
  split at hf <;> cases hf <;> simp [Form.mode, Form.bytes, *]

end Sys2Proof.Machine
end

section
/-! The unindexed reads and writes (R143 to R145, R150, R151). -/

namespace Sys2Proof.Machine

open Sys2Proof

theorem encode_of_formOf {i : Instr} {f : Form} (hf : formOf i = some f) : encode i = i.opcode :: f.bytes :=
  congrArg (i.opcode :: ·) (formOf_spec hf).2

/-- Settles O6: the form of an R-kind instruction runs its mnemonic's Apply, and the law of the form gives the rows. -/
theorem unindexedReadSequences : Obligations.UnindexedReadSequences := by
  intro i ap s hk ha
  refine ⟨fun v hf => ⟨encode_of_formOf hf, ?_⟩, fun p hf => ⟨encode_of_formOf hf, ?_⟩,
    fun a hf => ⟨encode_of_formOf hf, ?_⟩⟩ <;> rw [Completes, exec_read s hk ha hf]
  · exact readImm_completes ap i.opcode i.entry s v
  · exact readZp_completes ap i.opcode i.entry s p
  · exact readAbs_completes ap i.opcode i.entry s a

/-- The stored registers do not depend on PC. -/
theorem storeOf_pcAfter {mn : Mnemonic} {value : RegisterFile → Byte} (ha : storeOf mn = some value) (n : Nat)
    (s : State) : value (pcAfter n s) = value s.regs := by
  cases mn <;> cases ha <;> rfl

/-- Settles O7: the form of a W-kind instruction stores its mnemonic's register, which no earlier clock changes, and
the law of the form gives the rows. -/
theorem unindexedWriteSequences : Obligations.UnindexedWriteSequences := by
  intro i reg s hk ha
  refine ⟨fun p hf => ⟨encode_of_formOf hf, ?_⟩, fun a hf => ⟨encode_of_formOf hf, ?_⟩⟩ <;>
    rw [Completes, exec_write s hk ha hf]
  · rw [← storeOf_pcAfter ha 2 s]
    exact writeZp_completes reg i.opcode i.entry s p
  · rw [← storeOf_pcAfter ha 3 s]
    exact writeAbs_completes reg i.opcode i.entry s a

end Sys2Proof.Machine
end

section
/-! The sequence tables as lists of rows: row T(n + 2) of a sequence at place n. An instruction in flight runs the row
its count selects (R134, R135). -/

namespace Sys2Proof.Machine

open Sys2Proof

/-- R141 T2. -/
def rowExec (s : State) : State :=
  withFunction (execOf s.seq.mnemonic) s fun f => endInstr (mapRegs f (dummyRead s.regs.pc s))

/-- R142 T2. -/
def rowModifyAcc (s : State) : State :=
  withFunction (modifyOf s.seq.mnemonic) s fun f =>
    let rc := f s.regs.a s.regs.c
    endInstr (mapRegs (fun r => setNZ rc.1 (setCarry rc.2 { r with a := rc.1 })) (dummyRead s.regs.pc s))

/-- R143 T2. -/
def rowReadImm (s : State) : State :=
  withFunction (applyOf s.seq.mnemonic) s fun f =>
    let v := answer s.regs.pc s
    endInstr (mapRegs (f v) (setOperand v (fetchCycle v s)))

/-- R153 T4 and R158 T5: the fix-up after a cross, else the read at the indexed address. -/
def rowFixupOrRead (row : State → State) (s : State) : State :=
  if s.seq.crossed then rowFixup s else withEa s fun a => row (setEa (a + zext16 (indexOf s)) s)

/-- R153 T5 and R158 T6: the read after the fix-up. -/
def rowAfterFixup (row : State → State) (s : State) : State :=
  if s.seq.crossed then row s else raise .noSuchRow s

/-- R160 T2. -/
def rowBranchFetch (s : State) : State :=
  withFunction (condOf s.seq.mnemonic) s fun cond =>
    let s2 := branchFetch (answer s.regs.pc s) s
    if cond s2.regs then s2 else endInstr s2

/-- R160 T3. -/
def rowBranchTake (s : State) : State :=
  withOperand s fun offset =>
    let s3 := branchTake offset s
    if s3.seq.crossed then s3 else endInstr s3

/-- R160 T4. -/
def rowBranchFix (s : State) : State :=
  if s.seq.crossed then withTemp s fun page => branchFix page s else raise .noSuchRow s

/-- R161 T3. -/
def rowJumpFinal (s : State) : State :=
  withTemp s fun l => jumpFinal (answer s.regs.pc s) l s

/-- R162 T4. -/
def rowJumpLow (s : State) : State :=
  withEa s fun ptr => jumpIndLow ptr s

/-- R162 T5. -/
def rowJumpHigh (s : State) : State :=
  withEa s fun ptr => withTemp s fun l => jumpIndHigh ptr l s

/-- R163 T6. -/
def rowJsrFinal (s : State) : State :=
  withOperand s fun h => withTemp s fun l => jsrFinal h l s

/-- R164 T5. -/
def rowRtsHigh (s : State) : State :=
  withTemp s fun l => rtsHigh l s

/-- R165 T3. -/
def rowStore (s : State) : State :=
  withFunction (storeOf s.seq.mnemonic) s fun f => endInstr (push (f s.regs) s)

/-- R166 T4. -/
def rowPullFinal (s : State) : State :=
  withFunction (applyOf s.seq.mnemonic) s fun f =>
    endInstr (mapRegs (f (answer (stackAddr s) s)) (readCycle (stackAddr s) s))

/-- R168 T6. -/
def rowRtiFinal (s : State) : State :=
  withOperand s fun p => withTemp s fun l => rtiFinal p l s

/-- R302 T3. -/
def rowPushPcHigh (s : State) : State := push (hi s.regs.pc) s

/-- R302 T4. -/
def rowPushPcLow (s : State) : State := push (lo s.regs.pc) s

/-- R302 T5. -/
def rowPushStatus (brk : Bool) (s : State) : State := push (packP brk s.regs) s

/-- R302 T7. -/
def rowVectorHigh (vec : Addr) (s : State) : State :=
  withTemp s fun l => vectorHigh vec l s

/-- The last rows of an M-kind sequence. -/
def rmwRows : List (State → State) := [rowRmwRead, rowRmwApply, rowRmwWrite]

/-- The rows T3 to T7 that NMI, IRQ and BRK share. -/
def entryRows (vec : Addr) (brk : Bool) : List (State → State) :=
  [rowPushPcHigh, rowPushPcLow, rowPushStatus brk, vectorLow vec, rowVectorHigh vec]

/-- The rows of a sequence from T2 on. -/
def rowsOf : Sequence → List (State → State)
  | .implied => [rowExec]
  | .accumulator => [rowModifyAcc]
  | .immediate => [rowReadImm]
  | .zpR => [rowFetchZp, rowRead]
  | .zpW => [rowFetchZp, rowWrite]
  | .zpM => rowFetchZp :: rmwRows
  | .zpIndexedR => [rowFetchZp, rowIndexZp, rowRead]
  | .zpIndexedW => [rowFetchZp, rowIndexZp, rowWrite]
  | .zpIndexedM => rowFetchZp :: rowIndexZp :: rmwRows
  | .absR => [rowFetchZp, rowFetchHigh, rowRead]
  | .absW => [rowFetchZp, rowFetchHigh, rowWrite]
  | .absM => rowFetchZp :: rowFetchHigh :: rmwRows
  | .absIndexedR => [rowFetchZp, rowFetchHighChecked, rowFixupOrRead rowRead, rowAfterFixup rowRead]
  | .absIndexedW => [rowFetchZp, rowFetchHighChecked, rowFixup, rowWrite]
  | .absIndexedM => rowFetchZp :: rowFetchHighChecked :: rowFixup :: rmwRows
  | .izxR => [rowFetchOperand, rowIzxIndex, rowPointerLow, rowPointerHigh, rowReadLocal]
  | .izxW => [rowFetchOperand, rowIzxIndex, rowPointerLow, rowPointerHigh, rowWrite]
  | .izyR =>
    [rowFetchOperand, rowPointerLow, rowPointerHighChecked, rowFixupOrRead rowReadLocal, rowAfterFixup rowReadLocal]
  | .izyW => [rowFetchOperand, rowPointerLow, rowPointerHighChecked, rowFixup, rowWrite]
  | .branch => [rowBranchFetch, rowBranchTake, rowBranchFix]
  | .jmpAbs => [rowFetchTemp, rowJumpFinal]
  | .jmpInd => [rowFetchZp, rowFetchHigh, rowJumpLow, rowJumpHigh]
  | .jsr => [rowFetchTemp, rowFetchOperand, jsrBack, jsrPushHigh, rowJsrFinal]
  | .rts => [rowDummyPc, pullDummy, rtsLow, rowRtsHigh, rtsFinal]
  | .push => [rowDummyPc, rowStore]
  | .pull => [rowDummyPc, pullDummy, rowPullFinal]
  | .brk => brkSkip :: entryRows irqVector true
  | .rti => [rowDummyPc, pullDummy, rtiStatus, rtsLow, rowRtiFinal]

/-- The table of a sequence selects the rows of its list. -/
theorem rowOf_eq {q : Sequence} {n : Nat} {row : State → State} {s : State} (h : (rowsOf q)[n]? = some row)
    (ht : s.seq.t = n + 1) : rowOf q s = row s := by
  cases q <;> rcases n with _ | _ | _ | _ | _ | _ | n <;> cases h <;>
    simp only [rowOf, rowImplied, rowAccumulator, rowImmediate, rowZpR, rowZpW, rowZpM, rowZpIndexedR, rowZpIndexedW,
      rowZpIndexedM, rowAbsR, rowAbsW, rowAbsM, rowAbsIndexedR, rowAbsIndexedW, rowAbsIndexedM, rowIzxR, rowIzxW,
      rowIzyR, rowIzyW, rowBranch, rowJmpAbs, rowJmpInd, rowJsr, rowRts, rowPush, rowPull, rowBrk, rowRti,
      rowInterruptShape, ht] <;> rfl

/-- The table of R302 selects T2, a dummy read of PC, and the shared rows. -/
theorem rowInterrupt_eq {vec : Addr} {n : Nat} {row : State → State} {s : State}
    (h : (rowDummyPc :: entryRows vec false)[n]? = some row) (ht : s.seq.t = n + 1) : rowInterrupt vec s = row s := by
  rcases n with _ | _ | _ | _ | _ | _ | n <;> cases h <;> simp only [rowInterrupt, rowInterruptShape, ht] <;> rfl

end Sys2Proof.Machine
end

section
/-! Runs of the clock machine through one instruction: an instruction in flight after its k-th clock, and the states
that its clocks reach from the Ready state they began in. -/

namespace Sys2Proof.Machine

open Sys2Proof

/-- An instruction of entry `e` is in flight after its `k`-th clock: running, not stalled, the IRQ level polled. -/
structure InFlight (e : Entry) (k : Nat) (s : State) : Prop where
  halted : s.halted = none
  stall : s.stallCycles = 0
  phase : s.seq.phase = .exec
  t : s.seq.t = k
  mnemonic : s.seq.mnemonic = e.mnemonic
  mode : s.seq.mode = e.mode
  polled : s.latches.irqLineAsserted = s.irqIn

theorem poll_eq_self {s : State} (h : s.latches.irqLineAsserted = s.irqIn) : poll s = s := by
  obtain ⟨regs, seq, ⟨nmi, irq⟩, irqIn, stall, halted, mem, bus, config⟩ := s
  cases h
  rfl

/-- The clock after the `k`-th clock of an instruction of entry `e` runs `row`. -/
def RowAt (e : Entry) (k : Nat) (row : State → State) : Prop :=
  ∀ s, InFlight e k s → clock s = row s

theorem rowAt {e : Entry} {q : Sequence} {n : Nat} {row : State → State}
    (hq : sequenceOf e.mnemonic e.mode = some q) (hr : (rowsOf q)[n]? = some row) : RowAt e (n + 1) row := by
  intro s h
  rw [clock_inFlight h.halted h.stall (by simp [h.phase]), poll_eq_self h.polled]
  simp only [microStep, h.phase, h.mnemonic, h.mode, hq]
  exact rowOf_eq hr h.t

/-- A clock that leaves the instruction in flight. -/
def Continues (s s' : State) : Prop :=
  s'.halted = s.halted ∧ s'.stallCycles = s.stallCycles ∧ s'.seq.phase = s.seq.phase ∧ s'.seq.t = s.seq.t + 1 ∧
    s'.seq.mnemonic = s.seq.mnemonic ∧ s'.seq.mode = s.seq.mode ∧ s'.latches.irqLineAsserted = s'.irqIn

theorem InFlight.next {e : Entry} {k : Nat} {s s' : State} (h : InFlight e k s) (hc : Continues s s') :
    InFlight e (k + 1) s' := by
  obtain ⟨hh, hs, hp, ht, hmn, hm, hl⟩ := hc
  exact ⟨hh.trans h.halted, hs.trans h.stall, hp.trans h.phase, by rw [ht, h.t], hmn.trans h.mnemonic, hm.trans h.mode,
    hl⟩

/-- The first `k` clocks from `s0` reach `s`, and leave the instruction of entry `e` in flight each. -/
structure Reached (e : Entry) (s0 : State) (k : Nat) (s : State) : Prop where
  before : ∀ j, 1 ≤ j → j ≤ k → InFlight e j (clocks j s0)
  now : InFlight e k s
  state : clocks k s0 = s

/-- The first `n` clocks from `s0` reach `s`, and leave the instruction of entry `e` in flight before the last. -/
def Finished (e : Entry) (s0 : State) (n : Nat) (s : State) : Prop :=
  (∀ j, 1 ≤ j → j < n → InFlight e j (clocks j s0)) ∧ clocks n s0 = s

section Chain

variable {e : Entry} {s0 s s' : State} {k : Nat} {row : State → State}

theorem Reached.finish (h : Reached e s0 k s) (hr : RowAt e k row) (hs : row s = s') : Finished e s0 (k + 1) s' :=
  ⟨fun j h1 hj => h.before j h1 (Nat.le_of_lt_succ hj), by rw [clocks_succ_last, h.state, hr s h.now, hs]⟩

theorem Reached.step (h : Reached e s0 k s) (hr : RowAt e k row) (hs : row s = s') (hc : Continues s s') :
    Reached e s0 (k + 1) s' := by
  have hlast : clocks (k + 1) s0 = s' := (h.finish hr hs).2
  refine ⟨fun j h1 hj => ?_, h.now.next hc, hlast⟩
  rcases Nat.le_succ_iff.mp hj with hj | rfl
  · exact h.before j h1 hj
  · exact hlast ▸ h.now.next hc

/-- T1 of a Ready state whose opcode byte has the entry `e` (R131, R133). -/
theorem clock_ready {op : Byte} (hr : Ready s) (hop : instrByte 0 s = op) (he : lookup op = some e) :
    clock s = decodeClock op e s := by
  obtain ⟨h, hs, hp, hn, hi⟩ := hr
  have ha : answer (poll s).regs.pc (poll s) = op := by simpa [answer, instrByte] using hop
  rw [clock_decode h hs hp hn hi]
  simp only [decodeRow, ha, he, decodeClock_poll]

theorem reached_decode {op : Byte} (hr : Ready s) (hop : instrByte 0 s = op) (he : lookup op = some e) :
    Reached e s 1 (decodeClock op e s) := by
  have hc : clocks 1 s = decodeClock op e s := clock_ready hr hop he
  obtain ⟨hh, hs, -, -, -⟩ := hr
  have hf : InFlight e 1 (decodeClock op e s) := ⟨hh, hs, rfl, rfl, rfl, rfl, rfl⟩
  refine ⟨fun j h1 hj => ?_, hf, hc⟩
  obtain rfl : j = 1 := by omega
  exact hc ▸ hf

end Chain

/-! ### The bytes still to be fetched -/

/-- The bytes from PC on are `bs`, each as the Bus answers it in the clock that fetches it. -/
def Upcoming (bs : List Byte) (s : State) : Prop := ∀ k b, bs[k]? = some b → instrByte k s = b

theorem Upcoming.head {b : Byte} {bs : List Byte} {s : State} (h : Upcoming (b :: bs) s) : answer s.regs.pc s = b := by
  simpa [instrByte, answer] using h 0 b rfl

theorem instrByte_fetchCycle (k : Nat) (v : Byte) (s : State) : instrByte k (fetchCycle v s) = instrByte (k + 1) s := by
  simp only [instrByte, fetchCycle_bus, fetchCycle_regs, answerAt_fetchCycle, BitVec.add_assoc]
  congr 1
  · omega
  · rw [Nat.add_comm k, BitVec.ofNat_add]

theorem Upcoming.tail {b : Byte} {bs : List Byte} {s : State} (h : Upcoming (b :: bs) s) (v : Byte) :
    Upcoming bs (fetchCycle v s) :=
  fun k c hc => (instrByte_fetchCycle k v s).trans (h (k + 1) c hc)

theorem upcoming_decodeClock {bs : List Byte} {s : State} (op : Byte) (e : Entry)
    (h : ∀ k b, bs[k]? = some b → instrByte (k + 1) s = b) : Upcoming bs (decodeClock op e s) :=
  fun k b hb => (instrByte_fetchCycle k op s).trans (h k b hb)

/-! ### The rows with the latches they read -/

section Rows

variable {s : State} {a : Addr} {p v l h : Byte}

theorem withEa_eq {row : Addr → State} (ha : s.seq.effectiveAddress = some a) : withEa s row = row a := by
  simp only [withEa, ha]

theorem withOperand_eq {row : Byte → State} (hv : s.seq.operand = some v) : withOperand s row = row v := by
  simp only [withOperand, hv]

theorem withTemp_eq {row : Byte → State} (hv : s.seq.tempLatch = some v) : withTemp s row = row v := by
  simp only [withTemp, hv]

theorem withFunction_eq {α : Type} {f : Option α} {g : α} {row : α → State} (hf : f = some g) :
    withFunction f s row = row g := by
  simp only [withFunction, hf]

end Rows

/-! ### The address clocks -/

section Address

variable {e : Entry} {s0 s : State}

theorem reached_addrZp {p : Byte} (h : Reached e s0 1 s) (r1 : RowAt e 1 rowFetchZp) (hb : Upcoming [p] s) :
    Reached e s0 2 (addrZp p s).2 :=
  h.step r1 (by rw [rowFetchZp, hb.head]; rfl) (by simp [Continues, addrZp])

theorem reached_addrZpIndexed {p idx : Byte} (h : Reached e s0 1 s) (r1 : RowAt e 1 rowFetchZp)
    (r2 : RowAt e 2 rowIndexZp) (hb : Upcoming [p] s) (hi : indexOf s = idx) :
    Reached e s0 3 (addrZpIndexed p idx s).2 := by
  have hi2 : indexOf (addrZp p s).2 = idx := hi
  refine (reached_addrZp h r1 hb).step r2 ?_ (by simp [Continues, addrZpIndexed])
  rw [rowIndexZp, withEa_eq rfl, hi2, lo_zext16]
  rfl

theorem reached_addrAbs {a : Addr} (h : Reached e s0 1 s) (r1 : RowAt e 1 rowFetchZp) (r2 : RowAt e 2 rowFetchHigh)
    (hb : Upcoming [lo a, hi a] s) : Reached e s0 3 (addrAbs a s).2 := by
  have h2 : Reached e s0 2 (setEa (zext16 (lo a)) (fetchCycle (lo a) s)) :=
    h.step r1 (by rw [rowFetchZp, hb.head]) (by simp [Continues])
  have hhi : answer _ (setEa (zext16 (lo a)) (fetchCycle (lo a) s)) = hi a := (hb.tail (lo a)).head
  refine h2.step r2 ?_ (by simp [Continues, addrAbs])
  rw [rowFetchHigh, withEa_eq rfl]
  simp only [setEa_regs, hhi, lo_zext16, w16_hi_lo]
  rfl

theorem reached_addrAbsChecked {base : Addr} {idx : Byte} (h : Reached e s0 1 s) (r1 : RowAt e 1 rowFetchZp)
    (r2 : RowAt e 2 rowFetchHighChecked) (hb : Upcoming [lo base, hi base] s) (hi : indexOf s = idx) :
    Reached e s0 3 (addrAbsChecked base idx s).2 := by
  have h2 : Reached e s0 2 (setEa (zext16 (lo base)) (fetchCycle (lo base) s)) :=
    h.step r1 (by rw [rowFetchZp, hb.head]) (by simp [Continues])
  have hhi : answer _ (setEa (zext16 (lo base)) (fetchCycle (lo base) s)) = _ := (hb.tail (lo base)).head
  have hi2 : indexOf (setEa (zext16 (lo base)) (fetchCycle (lo base) s)) = idx := hi
  refine h2.step r2 ?_ (by simp [Continues, addrAbsChecked, addrAbs])
  rw [rowFetchHighChecked, withEa_eq rfl]
  simp only [setEa_regs, hhi, hi2, lo_zext16, w16_hi_lo]
  rfl

theorem reached_fixup {k : Nat} {base : Addr} {idx : Byte} (h : Reached e s0 k s) (hr : RowAt e k rowFixup)
    (ha : s.seq.effectiveAddress = some base) (hi : indexOf s = idx) :
    Reached e s0 (k + 1) (fixup base (base + zext16 idx) s) :=
  h.step hr (by rw [rowFixup, withEa_eq ha, hi]) (by simp [Continues, fixup])

theorem reached_fetchOperand {p : Byte} {bs : List Byte} {k : Nat} (h : Reached e s0 k s)
    (hr : RowAt e k rowFetchOperand) (hb : Upcoming (p :: bs) s) :
    Reached e s0 (k + 1) (setOperand p (fetchCycle p s)) :=
  h.step hr (by rw [rowFetchOperand, hb.head]) (by simp [Continues])

theorem reached_pointerLow {p : Byte} {k : Nat} (h : Reached e s0 k s) (hr : RowAt e k rowPointerLow)
    (hp : s.seq.operand = some p) :
    Reached e s0 (k + 1) (setEa (zext16 (answer (zext16 p) s)) (readCycle (zext16 p) s)) :=
  h.step hr (by rw [rowPointerLow, withOperand_eq hp]) (by simp [Continues])

theorem reached_addrIzx {p : Byte} (h : Reached e s0 1 s) (r1 : RowAt e 1 rowFetchOperand) (r2 : RowAt e 2 rowIzxIndex)
    (r3 : RowAt e 3 rowPointerLow) (r4 : RowAt e 4 rowPointerHigh) (hb : Upcoming [p] s) :
    Reached e s0 5 (addrIzx p s).2 := by
  have h3 := (reached_fetchOperand h r1 hb).step r2 (by rw [rowIzxIndex, withOperand_eq rfl]) (by simp [Continues])
  refine (reached_pointerLow h3 r3 rfl).step r4 ?_ (by simp [Continues, addrIzx])
  rw [rowPointerHigh, withOperand_eq rfl, withEa_eq rfl, lo_zext16]
  rfl

theorem reached_addrIzyBase {p : Byte} (h : Reached e s0 1 s) (r1 : RowAt e 1 rowFetchOperand)
    (r2 : RowAt e 2 rowPointerLow) (r3 : RowAt e 3 rowPointerHighChecked) (hb : Upcoming [p] s) :
    Reached e s0 4 (addrIzyBase p s).2 := by
  refine (reached_pointerLow (reached_fetchOperand h r1 hb) r2 rfl).step r3 ?_ (by simp [Continues, addrIzyBase])
  rw [rowPointerHighChecked, withOperand_eq rfl, withEa_eq rfl, lo_zext16]
  rfl

end Address

end Sys2Proof.Machine
end

section
/-! The R, W and M forms run clock by clock: each form's rows take a state after T1 to the state the form answers. -/

namespace Sys2Proof.Machine

open Sys2Proof

/-- The rows of the address clocks of a W-kind or M-kind form. -/
def Form.addressRows : Form → List (State → State)
  | .imm _ => []
  | .zp _ => [rowFetchZp]
  | .zpx _ | .zpy _ => [rowFetchZp, rowIndexZp]
  | .abs _ => [rowFetchZp, rowFetchHigh]
  | .abx _ | .aby _ => [rowFetchZp, rowFetchHighChecked, rowFixup]
  | .izx _ => [rowFetchOperand, rowIzxIndex, rowPointerLow, rowPointerHigh]
  | .izy _ => [rowFetchOperand, rowPointerLow, rowPointerHighChecked, rowFixup]

theorem rowsOf_writeSequence {f : Form} {q : Sequence} (h : writeSequence f.mode = some q) :
    rowsOf q = f.addressRows ++ [rowWrite] := by
  cases f <;> cases h <;> rfl

theorem rowsOf_modifySequence {f : Form} {q : Sequence} (h : modifySequence f.mode = some q) :
    rowsOf q = f.addressRows ++ rmwRows := by
  cases f <;> cases h <;> rfl

/-- The index of a form: Y where its name has Y, else X. -/
def Form.index : Form → RegisterFile → Byte
  | .zpy _, r | .aby _, r | .izy _, r => r.y
  | .imm _, r | .zp _, r | .zpx _, r | .abs _, r | .abx _, r | .izx _, r => r.x

section Forms

variable {e : Entry} {q : Sequence} {s0 s : State} {f : Form} {k : Nat} {a : Addr}

theorem indexOf_eq (h : s.seq.mode = f.mode) : indexOf s = f.index s.regs := by
  cases f <;> simp [indexOf, h, Form.mode, Form.index]

theorem indexOf_addrIzyBase (p : Byte) (s : State) : indexOf (addrIzyBase p s).2 = indexOf s := by
  simp [indexOf, addrIzyBase]

theorem reached_address (h : Reached e s0 1 s) (hm : e.mode = f.mode) (hb : Upcoming f.bytes s)
    (hr : ∀ n row, f.addressRows[n]? = some row → RowAt e (n + 1) row) :
    Reached e s0 (f.addressRows.length + 1) (f.address s).2 := by
  have hi := indexOf_eq (h.now.mode.trans hm)
  cases f with
  | imm v => exact h
  | zp p => exact reached_addrZp h (hr 0 _ rfl) hb
  | zpx p => exact reached_addrZpIndexed h (hr 0 _ rfl) (hr 1 _ rfl) hb hi
  | zpy p => exact reached_addrZpIndexed h (hr 0 _ rfl) (hr 1 _ rfl) hb hi
  | abs a => exact reached_addrAbs h (hr 0 _ rfl) (hr 1 _ rfl) hb
  | abx base =>
    have h3 := reached_addrAbsChecked h (hr 0 _ rfl) (hr 1 _ rfl) hb hi
    exact reached_fixup h3 (hr 2 _ rfl) rfl hi
  | aby base =>
    have h3 := reached_addrAbsChecked h (hr 0 _ rfl) (hr 1 _ rfl) hb hi
    exact reached_fixup h3 (hr 2 _ rfl) rfl hi
  | izx p => exact reached_addrIzx h (hr 0 _ rfl) (hr 1 _ rfl) (hr 2 _ rfl) (hr 3 _ rfl) hb
  | izy p =>
    have h4 := reached_addrIzyBase h (hr 0 _ rfl) (hr 1 _ rfl) (hr 2 _ rfl) hb
    exact reached_fixup h4 (hr 3 _ rfl) rfl ((indexOf_addrIzyBase p s).trans hi)

theorem address_ea (hf : f.mode ≠ .imm) : (f.address s).2.seq.effectiveAddress = some (f.address s).1 := by
  cases f with
  | imm v => exact absurd rfl hf
  | _ => rfl

/-- The rows of a sequence cut in two. -/
theorem rowAt_append {pre post : List (State → State)} (hq : sequenceOf e.mnemonic e.mode = some q)
    (hrows : rowsOf q = pre ++ post) :
    (∀ n row, pre[n]? = some row → RowAt e (n + 1) row) ∧
      ∀ n row, post[n]? = some row → RowAt e (pre.length + 1 + n) row := by
  refine ⟨fun n row h => rowAt hq ?_, fun n row h => ?_⟩
  · rw [hrows, List.getElem?_append_left (List.getElem?_eq_some_iff.mp h).1, h]
  · rw [Nat.add_right_comm]
    refine rowAt hq ?_
    rw [hrows, List.getElem?_append_right (Nat.le_add_right _ _), Nat.add_sub_cancel_left, h]

theorem finished_write {value : RegisterFile → Byte} (h : Reached e s0 k s) (hr : RowAt e k rowWrite)
    (ha : s.seq.effectiveAddress = some a) (hv : storeOf e.mnemonic = some value) :
    Finished e s0 (k + 1) (writeFinal (value s.regs) a s) :=
  h.finish hr (by rw [rowWrite, withEa_eq ha, withFunction_eq (h.now.mnemonic ▸ hv)])

theorem finished_read {ap : Apply} (h : Reached e s0 k s) (hr : RowAt e k rowRead)
    (ha : s.seq.effectiveAddress = some a) (hf : applyOf e.mnemonic = some ap) :
    Finished e s0 (k + 1) (readFinal ap a s) :=
  h.finish hr (by rw [rowRead, withEa_eq ha, withFunction_eq (h.now.mnemonic ▸ hf)])

theorem finished_readLocal {ap : Apply} (h : Reached e s0 k s) (hr : RowAt e k rowReadLocal)
    (ha : s.seq.effectiveAddress = some a) (hf : applyOf e.mnemonic = some ap) :
    Finished e s0 (k + 1) (readFinalLocal ap a s) :=
  h.finish hr (by rw [rowReadLocal, withEa_eq ha, withFunction_eq (h.now.mnemonic ▸ hf)])

theorem finished_rmw {modify : Modify} (h : Reached e s0 k s)
    (hr : ∀ n row, rmwRows[n]? = some row → RowAt e (k + n) row)
    (ha : s.seq.effectiveAddress = some a) (hf : modifyOf e.mnemonic = some modify) :
    Finished e s0 (k + 3) (rmwFinal modify a s) := by
  have h1 : Reached e s0 (k + 1) (rmwRead a s) :=
    h.step (hr 0 _ rfl) (by rw [rowRmwRead, withEa_eq ha]) (by simp [Continues, rmwRead])
  have h2 : Reached e s0 (k + 2)
      (rmwApply a (answer a s) (modify (answer a s) (rmwRead a s).regs.c).1 (rmwRead a s)) := by
    refine h1.step (hr 1 _ rfl) ?_ (by simp [Continues, rmwApply])
    rw [rowRmwApply, withEa_eq (s := rmwRead a s) ha, withOperand_eq rfl, withTemp_eq rfl,
      withFunction_eq (h1.now.mnemonic ▸ hf)]
  refine h2.finish (hr 2 _ rfl) ?_
  rw [rowRmwWrite, withEa_eq (by simpa [rmwApply, rmwRead] using ha),
    withOperand_eq (v := answer a s) (by simp [rmwApply, rmwRead]), withTemp_eq rfl,
    withFunction_eq (h2.now.mnemonic ▸ hf)]
  simp [rmwFinal, rmwApply]

/-- The indexed read at T(k + 1): one more clock when the index crosses a page (R153, R158). -/
theorem finished_indexedRead {row : State → State} {final : Addr → State → State} {base : Addr} {idx : Byte}
    (h : Reached e s0 k s) (hr : RowAt e k (rowFixupOrRead row)) (hr' : RowAt e (k + 1) (rowAfterFixup row))
    (ha : s.seq.effectiveAddress = some base) (hi : indexOf s = idx)
    (hc : s.seq.crossed = !samePage base (base + zext16 idx))
    (hrow : ∀ u, u.seq.mnemonic = e.mnemonic → u.seq.effectiveAddress = some (base + zext16 idx) →
      row u = final (base + zext16 idx) u) :
    Finished e s0 (if samePage base (base + zext16 idx) = false then k + 2 else k + 1)
      (final (base + zext16 idx) (fixupIfCrossed base (base + zext16 idx) s)) := by
  by_cases hp : samePage base (base + zext16 idx) = true
  · rw [if_neg (by simp [hp]), fixupIfCrossed, if_pos hp]
    refine h.finish hr ?_
    rw [rowFixupOrRead, if_neg (by simp [hc, hp]), withEa_eq ha, hi]
    exact hrow _ h.now.mnemonic rfl
  · rw [if_pos (by simpa using hp), fixupIfCrossed, if_neg hp]
    have hx : s.seq.crossed = true := by simpa [hc] using hp
    have h1 : Reached e s0 (k + 1) (fixup base (base + zext16 idx) s) := by
      refine h.step hr ?_ (by simp [Continues, fixup])
      rw [rowFixupOrRead, if_pos hx, rowFixup, withEa_eq ha, hi]
    refine h1.finish hr' ?_
    rw [rowAfterFixup, if_pos (by simpa [fixup] using hx)]
    exact hrow _ h1.now.mnemonic rfl

/-- The clocks of a read form, T1 included, where `s` is the state after T1. -/
def Form.readClocks (f : Form) (s : State) : Nat :=
  match f with
  | .imm _ => 2
  | .zp _ => 3
  | .zpx _ | .zpy _ | .abs _ => 4
  | .izx _ => 6
  | .abx base => if samePage base (base + zext16 s.regs.x) = false then 5 else 4
  | .aby base => if samePage base (base + zext16 s.regs.y) = false then 5 else 4
  | .izy p => if samePage (addrIzyBase p s).1 ((addrIzyBase p s).1 + zext16 s.regs.y) = false then 6 else 5

theorem finished_readForm {ap : Apply} (h : Reached e s0 1 s) (hm : e.mode = f.mode)
    (hq : sequenceOf e.mnemonic e.mode = readSequence f.mode) (hb : Upcoming f.bytes s)
    (ha : applyOf e.mnemonic = some ap) :
    ∃ u, readForm ap f s = .next u ∧ Finished e s0 (f.readClocks s) u := by
  have hi := indexOf_eq (h.now.mode.trans hm)
  have indexed : ∀ u a, u.seq.mnemonic = e.mnemonic → u.seq.effectiveAddress = some a → rowRead u = readFinal ap a u :=
    fun u a hmn hea => by rw [rowRead, withEa_eq hea, withFunction_eq (hmn ▸ ha)]
  cases f with
  | imm v =>
    refine ⟨_, rfl, h.finish (rowAt hq rfl) ?_⟩
    rw [rowReadImm, withFunction_eq (h.now.mnemonic ▸ ha), hb.head]
  | zp p => exact ⟨_, rfl, finished_read (reached_addrZp h (rowAt hq rfl) hb) (rowAt hq rfl) rfl ha⟩
  | zpx p =>
    have h3 := reached_addrZpIndexed h (rowAt hq rfl) (rowAt hq rfl) hb hi
    exact ⟨_, rfl, finished_read h3 (rowAt hq rfl) rfl ha⟩
  | zpy p =>
    have h3 := reached_addrZpIndexed h (rowAt hq rfl) (rowAt hq rfl) hb hi
    exact ⟨_, rfl, finished_read h3 (rowAt hq rfl) rfl ha⟩
  | abs a =>
    have h3 := reached_addrAbs h (rowAt hq rfl) (rowAt hq rfl) hb
    exact ⟨_, rfl, finished_read h3 (rowAt hq rfl) rfl ha⟩
  | abx base =>
    have h3 := reached_addrAbsChecked h (rowAt hq rfl) (rowAt hq rfl) hb hi
    exact ⟨_, rfl, finished_indexedRead h3 (rowAt hq rfl) (rowAt hq rfl) rfl hi rfl fun u => indexed u _⟩
  | aby base =>
    have h3 := reached_addrAbsChecked h (rowAt hq rfl) (rowAt hq rfl) hb hi
    exact ⟨_, rfl, finished_indexedRead h3 (rowAt hq rfl) (rowAt hq rfl) rfl hi rfl fun u => indexed u _⟩
  | izx p =>
    have h5 := reached_addrIzx h (rowAt hq rfl) (rowAt hq rfl) (rowAt hq rfl) (rowAt hq rfl) hb
    exact ⟨_, rfl, finished_readLocal h5 (rowAt hq rfl) rfl ha⟩
  | izy p =>
    have h4 := reached_addrIzyBase h (rowAt hq rfl) (rowAt hq rfl) (rowAt hq rfl) hb
    refine ⟨_, rfl, finished_indexedRead h4 (rowAt hq rfl) (rowAt hq rfl) rfl
      ((indexOf_addrIzyBase p s).trans hi) rfl fun u hmn hea => ?_⟩
    rw [rowReadLocal, withEa_eq hea, withFunction_eq (hmn ▸ ha)]

end Forms

end Sys2Proof.Machine
end

section
/-! The remaining forms run clock by clock: implied, accumulator, stack, jumps, calls, returns, BRK and branches. -/

namespace Sys2Proof.Machine

open Sys2Proof

section Control

variable {e : Entry} {s0 s : State}

theorem finished_implied {f : RegisterFile → RegisterFile} (h : Reached e s0 1 s)
    (hq : sequenceOf e.mnemonic e.mode = some .implied) (hf : execOf e.mnemonic = some f) :
    ∃ u, implied f s = .next u ∧ Finished e s0 2 u :=
  ⟨_, rfl, h.finish (rowAt hq rfl) (by rw [rowExec, withFunction_eq (h.now.mnemonic ▸ hf)])⟩

theorem finished_modifyAcc {modify : Modify} (h : Reached e s0 1 s)
    (hq : sequenceOf e.mnemonic e.mode = some .accumulator) (hf : modifyOf e.mnemonic = some modify) :
    ∃ u, modifyAcc modify s = .next u ∧ Finished e s0 2 u := by
  refine ⟨_, rfl, h.finish (rowAt hq rfl) ?_⟩
  rw [rowModifyAcc, withFunction_eq (h.now.mnemonic ▸ hf), dummyRead_regs]

theorem finished_pushForm {value : RegisterFile → Byte} (h : Reached e s0 1 s)
    (hq : sequenceOf e.mnemonic e.mode = some .push) (hf : storeOf e.mnemonic = some value) :
    ∃ u, pushForm value s = .next u ∧ Finished e s0 3 u := by
  have h2 : Reached e s0 2 (dummyRead s.regs.pc s) := h.step (rowAt hq rfl) rfl (by simp [Continues])
  refine ⟨_, rfl, h2.finish (rowAt hq rfl) ?_⟩
  rw [rowStore, withFunction_eq (h2.now.mnemonic ▸ hf)]

/-- T2 and T3 of the pulls: a dummy read of PC, then one of the stack (R164, R166, R168). -/
theorem reached_pullDummy (h : Reached e s0 1 s) (r1 : RowAt e 1 rowDummyPc) (r2 : RowAt e 2 pullDummy) :
    Reached e s0 3 (pullDummy (dummyRead s.regs.pc s)) := by
  have h2 : Reached e s0 2 (dummyRead s.regs.pc s) := h.step r1 rfl (by simp [Continues])
  exact h2.step r2 rfl (by simp [Continues, pullDummy])

theorem finished_pullForm {ap : Apply} (h : Reached e s0 1 s)
    (hq : sequenceOf e.mnemonic e.mode = some .pull) (hf : applyOf e.mnemonic = some ap) :
    ∃ u, pullForm ap s = .next u ∧ Finished e s0 4 u := by
  have h3 := reached_pullDummy h (rowAt hq rfl) (rowAt hq rfl)
  refine ⟨_, rfl, h3.finish (rowAt hq rfl) ?_⟩
  rw [rowPullFinal, withFunction_eq (h3.now.mnemonic ▸ hf)]
  rfl

theorem finished_jumpAbs {target : Addr} (h : Reached e s0 1 s) (hq : sequenceOf e.mnemonic e.mode = some .jmpAbs)
    (hb : Upcoming [lo target, hi target] s) : ∃ u, jumpAbs target s = .next u ∧ Finished e s0 3 u := by
  have h2 : Reached e s0 2 (setTemp (lo target) (fetchCycle (lo target) s)) :=
    h.step (rowAt hq rfl) (by rw [rowFetchTemp, hb.head]) (by simp [Continues])
  have hhi : answer _ (setTemp (lo target) (fetchCycle (lo target) s)) = hi target := (hb.tail (lo target)).head
  refine ⟨_, rfl, h2.finish (rowAt hq rfl) ?_⟩
  rw [rowJumpFinal, withTemp_eq rfl, setTemp_regs, hhi]

theorem finished_jumpInd {ptr : Addr} (h : Reached e s0 1 s) (hq : sequenceOf e.mnemonic e.mode = some .jmpInd)
    (hb : Upcoming [lo ptr, hi ptr] s) : ∃ u, jumpInd ptr s = .next u ∧ Finished e s0 5 u := by
  have h3 := reached_addrAbs h (rowAt hq rfl) (rowAt hq rfl) hb
  have h4 : Reached e s0 4 (jumpIndLow ptr (addrAbs ptr s).2) :=
    h3.step (rowAt hq rfl) (by rw [rowJumpLow, withEa_eq rfl]) (by simp [Continues, jumpIndLow])
  refine ⟨_, rfl, h4.finish (rowAt hq rfl) ?_⟩
  rw [rowJumpHigh, withEa_eq rfl, withTemp_eq rfl]

theorem finished_callForm {target : Addr} (h : Reached e s0 1 s) (hq : sequenceOf e.mnemonic e.mode = some .jsr)
    (hb : Upcoming [lo target, hi target] s) : ∃ u, callForm target s = .next u ∧ Finished e s0 6 u := by
  have h2 : Reached e s0 2 (setTemp (lo target) (fetchCycle (lo target) s)) :=
    h.step (rowAt hq rfl) (by rw [rowFetchTemp, hb.head]) (by simp [Continues])
  have h3 := reached_fetchOperand h2 (rowAt hq rfl) (hb.tail (lo target))
  have h4 := h3.step (rowAt hq rfl) rfl (by simp [Continues, jsrBack])
  have h5 := h4.step (rowAt hq rfl) rfl (by simp [Continues, jsrPushHigh])
  refine ⟨_, rfl, h5.finish (rowAt hq rfl) ?_⟩
  rw [rowJsrFinal, withOperand_eq (v := hi target) (by simp [jsrPushHigh, jsrBack]),
    withTemp_eq (v := lo target) (by simp [jsrPushHigh, jsrBack])]

theorem finished_returnForm (h : Reached e s0 1 s) (hq : sequenceOf e.mnemonic e.mode = some .rts) :
    ∃ u, returnForm s = .next u ∧ Finished e s0 6 u := by
  have h3 := reached_pullDummy h (rowAt hq rfl) (rowAt hq rfl)
  have h4 := h3.step (rowAt hq rfl) rfl (by simp [Continues, rtsLow])
  have h5 := h4.step (rowAt hq rfl) (by rw [rowRtsHigh, withTemp_eq rfl]) (by simp [Continues, rtsHigh])
  exact ⟨_, rfl, h5.finish (rowAt hq rfl) rfl⟩

theorem finished_break (h : Reached e s0 1 s) (hq : sequenceOf e.mnemonic e.mode = some .brk) :
    ∃ u, breakForm s = .next u ∧ Finished e s0 7 u := by
  have h2 := h.step (rowAt hq rfl) rfl (by simp [Continues, brkSkip])
  have h3 := h2.step (rowAt hq rfl) rfl (by simp [Continues, rowPushPcHigh])
  have h4 := h3.step (rowAt hq rfl) rfl (by simp [Continues, rowPushPcLow])
  have h5 := h4.step (rowAt hq rfl) rfl (by simp [Continues, rowPushStatus])
  have h6 := h5.step (rowAt hq rfl) rfl (by simp [Continues, vectorLow])
  exact ⟨_, rfl, h6.finish (rowAt hq rfl) (by rw [rowVectorHigh, withTemp_eq rfl]; rfl)⟩

theorem finished_returnFromInterrupt (h : Reached e s0 1 s) (hq : sequenceOf e.mnemonic e.mode = some .rti) :
    Finished e s0 6 (returnFromInterrupt s) := by
  have h3 := reached_pullDummy h (rowAt hq rfl) (rowAt hq rfl)
  have h4 := h3.step (rowAt hq rfl) rfl (by simp [Continues, rtiStatus])
  have h5 := h4.step (rowAt hq rfl) rfl (by simp [Continues, rtsLow])
  exact h5.finish (rowAt hq rfl) (by rw [rowRtiFinal, withOperand_eq rfl, withTemp_eq rfl]; rfl)

/-- A branch condition reads flags alone. -/
theorem condOf_pc {mn : Mnemonic} {cond : RegisterFile → Bool} (hf : condOf mn = some cond) (r : RegisterFile)
    (pc : Addr) : cond { r with pc := pc } = cond r := by
  cases mn <;> cases hf <;> rfl

/-- The clocks of a branch, T1 included, where `s` is the state after T1. -/
def branchClocks (taken : Bool) (offset : Byte) (s : State) : Nat :=
  let next := s.regs.pc + 1#16
  if taken then if samePage next (next + sext16 offset) then 3 else 4 else 2

theorem rowBranchFetch_eq {cond : RegisterFile → Bool} {offset : Byte} (hf : condOf s.seq.mnemonic = some cond)
    (hv : answer s.regs.pc s = offset) :
    rowBranchFetch s = if cond s.regs then branchFetch offset s else endInstr (branchFetch offset s) := by
  rw [rowBranchFetch, withFunction_eq hf, hv]
  simp only [branchFetch, setOperand_regs, fetchCycle_regs, condOf_pc hf]

theorem branchTake_crossed (offset : Byte) (s : State) :
    (branchTake offset s).seq.crossed = !samePage s.regs.pc (s.regs.pc + sext16 offset) := rfl

theorem rowBranchTake_eq {offset : Byte} (hv : s.seq.operand = some offset) :
    rowBranchTake s = if samePage s.regs.pc (s.regs.pc + sext16 offset) then endInstr (branchTake offset s)
      else branchTake offset s := by
  rw [rowBranchTake, withOperand_eq hv]
  simp only [branchTake_crossed]
  by_cases hp : samePage s.regs.pc (s.regs.pc + sext16 offset) = true <;> simp [hp]

theorem branch_eq {mn : Mnemonic} {cond : RegisterFile → Bool} (hf : condOf mn = some cond) (offset : Byte)
    (s : State) : branch cond offset s = .next (
      let next := s.regs.pc + 1#16
      let s2 := branchFetch offset s
      if cond s.regs then
        if samePage next (next + sext16 offset) then endInstr (branchTake offset s2)
        else branchFix (hi next) (branchTake offset s2)
      else endInstr s2) := by
  have hpc : (branchFetch offset s).regs.pc = s.regs.pc + 1#16 := rfl
  have hcond : cond (branchFetch offset s).regs = cond s.regs := condOf_pc hf s.regs _
  simp only [branch, branchTake_crossed, hcond, hpc]
  by_cases ht : cond s.regs = true <;>
    by_cases hp : samePage (s.regs.pc + 1#16) (s.regs.pc + 1#16 + sext16 offset) = true <;> simp [ht, hp]

theorem finished_branch {cond : RegisterFile → Bool} {offset : Byte} (h : Reached e s0 1 s)
    (hq : sequenceOf e.mnemonic e.mode = some .branch) (hb : Upcoming [offset] s) (hf : condOf e.mnemonic = some cond) :
    ∃ u, branch cond offset s = .next u ∧ Finished e s0 (branchClocks (cond s.regs) offset s) u := by
  refine ⟨_, branch_eq hf offset s, ?_⟩
  have hfetch := rowBranchFetch_eq (h.now.mnemonic ▸ hf) hb.head
  have htake : rowBranchTake (branchFetch offset s) = _ := rowBranchTake_eq rfl
  by_cases ht : cond s.regs = true
  · simp only [branchClocks, if_pos ht] at hfetch ⊢
    have h2 := h.step (rowAt hq rfl) hfetch (by simp [Continues, branchFetch])
    by_cases hp : samePage (s.regs.pc + 1#16) (s.regs.pc + 1#16 + sext16 offset) = true
    · rw [if_pos hp, if_pos hp]
      exact h2.finish (rowAt hq rfl) (htake.trans (if_pos hp))
    · rw [if_neg hp, if_neg hp]
      have h3 := h2.step (rowAt hq rfl) (htake.trans (if_neg hp)) (by simp [Continues, branchTake])
      have hcross : (branchTake offset (branchFetch offset s)).seq.crossed = true := by
        simpa [branchTake, branchFetch] using hp
      refine h3.finish (rowAt hq rfl) ?_
      rw [rowBranchFix, if_pos hcross, withTemp_eq rfl]
      rfl
  · simp only [branchClocks, if_neg ht] at hfetch ⊢
    exact h.finish (rowAt hq rfl) hfetch

end Control

end Sys2Proof.Machine
end

section
/-! Every instruction runs its clocks: its table row names its sequence and count, its kind its form, and the form's run
gives the clocks. -/

namespace Sys2Proof.Machine

open Sys2Proof

theorem instr_sequence (i : Instr) : ∃ q, sequenceOf i.mnemonic i.mode = some q ∧ i.cycles = q.baseClocks := by
  obtain ⟨q, hq, hc, -⟩ := sequence_of_inTable (inTable_of_lookup (lookup_opcode i))
  exact ⟨q, hq, hc⟩

theorem cycles_of_sequence {i : Instr} {q : Sequence} (hq : sequenceOf i.mnemonic i.mode = some q) :
    i.cycles = q.baseClocks := by
  obtain ⟨q', hq', hc⟩ := instr_sequence i
  rwa [Option.some.inj (hq.symm.trans hq')]

/-- The sequence of a mnemonic and a mode of its kind (R135). -/
def Kind.sequence (kind : Kind) (mn : Mnemonic) (mode : Mode) : Option Sequence :=
  match kind with
  | .read => readSequence mode
  | .write => writeSequence mode
  | .modify => modifySequence mode
  | .other => otherSequence mn mode

section Kind

variable {i : Instr}

theorem sequenceOf_instr {kind : Kind} (hk : kindOf i.mnemonic = kind) :
    sequenceOf i.mnemonic i.mode = kind.sequence i.mnemonic i.mode := by
  rw [sequenceOf, if_pos (show supported i.mnemonic i.mode = true from wf_instr i), hk]
  cases kind <;> rfl

theorem formOf_read (hk : kindOf i.mnemonic = .read) :
    ∃ f ap, formOf i = some f ∧ applyOf i.mnemonic = some ap := by
  cases i <;> cases hk <;> exact ⟨_, _, rfl, rfl⟩

theorem formOf_write (hk : kindOf i.mnemonic = .write) :
    ∃ f value, formOf i = some f ∧ storeOf i.mnemonic = some value := by
  cases i <;> cases hk <;> exact ⟨_, _, rfl, rfl⟩

theorem formOf_modify (hk : kindOf i.mnemonic = .modify) :
    (i.mode = .acc ∨ ∃ f, formOf i = some f) ∧ ∃ modify, modifyOf i.mnemonic = some modify := by
  cases i <;> cases hk <;> simp [Instr.mode, formOf, Instr.operands, Instr.mnemonic, modifyOf]

/-- The kinds and modes that earn no extension take the table's count (R134). -/
theorem clocksOf_plain (s : State) (hk : kindOf i.mnemonic ≠ .read) (hm : i.mode ≠ .rel) : clocksOf i s = i.cycles := by
  unfold clocksOf
  split <;> simp_all

theorem branchCond_eq {mn : Mnemonic} {cond : RegisterFile → Bool} (hf : condOf mn = some cond) (r : RegisterFile) :
    branchCond mn r = some (cond r) := by
  cases mn <;> cases hf <;> rfl

/-- The count of R134 for a read is that of its form's run. -/
theorem clocksOf_read {f : Form} (op : Byte) (e : Entry) (s : State) (hk : kindOf i.mnemonic = .read)
    (hf : formOf i = some f) : clocksOf i s = f.readClocks (decodeClock op e s) := by
  obtain ⟨hm, ho⟩ := formOf_spec hf
  obtain ⟨q, hq, hc⟩ := instr_sequence i
  rw [sequenceOf_instr hk, hm] at hq
  cases f <;> cases hq <;>
    simp [clocksOf, hm, ho, Form.mode, Form.bytes, hk, hc, Form.readClocks, Sequence.baseClocks, addrIzyBase,
      answer] <;> congr

theorem branch_mode {cond : RegisterFile → Bool} (hf : condOf i.mnemonic = some cond) :
    i.mode = .rel ∧ i.cycles = 2 := by
  cases i <;> cases hf <;> exact ⟨rfl, rfl⟩

theorem clocksOf_branch {cond : RegisterFile → Bool} {offset : Byte} (op : Byte) (e : Entry) (s : State)
    (ho : i.operands = [offset]) (hf : condOf i.mnemonic = some cond) :
    clocksOf i s = branchClocks (cond s.regs) offset (decodeClock op e s) := by
  obtain ⟨hm, hc⟩ := branch_mode hf
  simp only [clocksOf, hm, ho, hc, branchCond_eq hf, branchClocks, decodeClock_regs, pc_add_one_one]
  by_cases ht : cond s.regs = true <;> simp [ht]

/-- The instructions of no R, W or M kind, by the tables R141 and R160 to R168. -/
theorem other_cases (hk : kindOf i.mnemonic = .other) :
    (otherSequence i.mnemonic i.mode = some .implied ∧ ∃ f, execOf i.mnemonic = some f) ∨
      (otherSequence i.mnemonic i.mode = some .branch ∧ ∃ cond, condOf i.mnemonic = some cond) ∨
      (otherSequence i.mnemonic i.mode = some .push ∧ ∃ value, storeOf i.mnemonic = some value) ∨
      (otherSequence i.mnemonic i.mode = some .pull ∧ ∃ ap, applyOf i.mnemonic = some ap) ∨
      (∃ a, i = .jmpAbs a) ∨ (∃ a, i = .jmpInd a) ∨ (∃ a, i = .jsr a) ∨ i = .rts ∨ i = .brk ∨ i = .rti := by
  cases i <;> cases hk <;> simp [otherSequence, Instr.mode, Instr.mnemonic, execOf, condOf, storeOf, applyOf]

/-- Of these only the branches have relative operands, so the rest take their sequence's count. -/
theorem clocksOf_other {q : Sequence} (s : State) (hk : kindOf i.mnemonic = .other)
    (hq : otherSequence i.mnemonic i.mode = some q) (hb : q ≠ .branch) : clocksOf i s = q.baseClocks := by
  have hm : i.mode ≠ .rel := by
    intro hm
    rw [hm] at hq
    exact hb (Option.some.inj hq).symm
  rw [clocksOf_plain s (by simp [hk]) hm, cycles_of_sequence ((sequenceOf_instr hk).trans hq)]

end Kind

/-- The instruction runs its clocks from `s`: `exec` answers the state that they reach. -/
def RunsItsClocks (i : Instr) (s : State) : Prop :=
  ∃ u, exec i s = .next u ∧ Finished i.entry s (clocksOf i s) u

section Settle

variable {i : Instr} {s : State}

theorem runsItsClocks_read (h : Reached i.entry s 1 (decodeClock i.opcode i.entry s))
    (hb : Upcoming i.operands (decodeClock i.opcode i.entry s)) (hk : kindOf i.mnemonic = .read) :
    RunsItsClocks i s := by
  obtain ⟨f, ap, hf, ha⟩ := formOf_read hk
  obtain ⟨hm, ho⟩ := formOf_spec hf
  have hq : sequenceOf i.entry.mnemonic i.entry.mode = readSequence f.mode := hm ▸ sequenceOf_instr hk
  rw [RunsItsClocks, exec_read s hk ha hf, clocksOf_read i.opcode i.entry s hk hf]
  exact finished_readForm h hm hq (ho ▸ hb) ha

theorem runsItsClocks_write (h : Reached i.entry s 1 (decodeClock i.opcode i.entry s))
    (hb : Upcoming i.operands (decodeClock i.opcode i.entry s)) (hk : kindOf i.mnemonic = .write) :
    RunsItsClocks i s := by
  obtain ⟨f, value, hf, ha⟩ := formOf_write hk
  obtain ⟨hm, ho⟩ := formOf_spec hf
  obtain ⟨q, hq, hc⟩ := instr_sequence i
  have hw : writeSequence f.mode = some q := hm ▸ (sequenceOf_instr hk).symm.trans hq
  obtain ⟨hpre, hpost⟩ := rowAt_append (e := i.entry) hq (rowsOf_writeSequence hw)
  have ht := reached_address h hm (ho ▸ hb) hpre
  have hn : clocksOf i s = f.addressRows.length + 2 := by
    rw [clocksOf_plain s (by simp [hk]) (by cases f <;> simp [hm, Form.mode]), hc]
    cases f <;> cases hw <;> rfl
  rw [RunsItsClocks, exec_write s hk ha hf, hn]
  exact ⟨_, rfl, finished_write ht (hpost 0 _ rfl) (address_ea (by rintro he; simp [he, writeSequence] at hw)) ha⟩

theorem runsItsClocks_modify (h : Reached i.entry s 1 (decodeClock i.opcode i.entry s))
    (hb : Upcoming i.operands (decodeClock i.opcode i.entry s)) (hk : kindOf i.mnemonic = .modify) :
    RunsItsClocks i s := by
  obtain ⟨hacc | ⟨f, hf⟩, modify, ha⟩ := formOf_modify hk
  · have hq : sequenceOf i.mnemonic i.mode = some .accumulator := by rw [sequenceOf_instr hk, hacc]; rfl
    rw [RunsItsClocks, exec_accumulator s ha hacc, clocksOf_plain s (by simp [hk]) (by simp [hacc]),
      cycles_of_sequence hq]
    exact finished_modifyAcc h hq ha
  · obtain ⟨hm, ho⟩ := formOf_spec hf
    obtain ⟨q, hq, hc⟩ := instr_sequence i
    have hw : modifySequence f.mode = some q := hm ▸ (sequenceOf_instr hk).symm.trans hq
    obtain ⟨hpre, hpost⟩ := rowAt_append (e := i.entry) hq (rowsOf_modifySequence hw)
    have ht := reached_address h hm (ho ▸ hb) hpre
    have hn : clocksOf i s = f.addressRows.length + 4 := by
      rw [clocksOf_plain s (by simp [hk]) (by cases f <;> simp [hm, Form.mode]), hc]
      cases f <;> cases hw <;> rfl
    rw [RunsItsClocks, exec_modify s ha hf, hn]
    exact ⟨_, rfl, finished_rmw ht hpost (address_ea (by rintro he; simp [he, modifySequence] at hw)) ha⟩

theorem runsItsClocks_other (h : Reached i.entry s 1 (decodeClock i.opcode i.entry s))
    (hb : Upcoming i.operands (decodeClock i.opcode i.entry s)) (hk : kindOf i.mnemonic = .other) :
    RunsItsClocks i s := by
  have hseq : ∀ q, otherSequence i.mnemonic i.mode = some q → sequenceOf i.entry.mnemonic i.entry.mode = some q :=
    fun q hq => (sequenceOf_instr hk).trans hq
  obtain ⟨hq, f, ha⟩ | ⟨hq, cond, ha⟩ | ⟨hq, value, ha⟩ | ⟨hq, ap, ha⟩ | ⟨a, rfl⟩ | ⟨a, rfl⟩ | ⟨a, rfl⟩ | rfl | rfl |
    rfl := other_cases hk
  · rw [RunsItsClocks, exec_implied s ha, clocksOf_other s hk hq (by decide)]
    exact finished_implied h (hseq _ hq) ha
  · obtain ⟨offset, ho, hx⟩ := exec_branch s ha
    rw [RunsItsClocks, hx, clocksOf_branch i.opcode i.entry s ho ha, ← condOf_pc ha s.regs]
    exact finished_branch h (hseq _ hq) (ho ▸ hb) ha
  · rw [RunsItsClocks, exec_push s hk ha, clocksOf_other s hk hq (by decide)]
    exact finished_pushForm h (hseq _ hq) ha
  · rw [RunsItsClocks, exec_pull s hk ha, clocksOf_other s hk hq (by decide)]
    exact finished_pullForm h (hseq _ hq) ha
  · exact finished_jumpAbs h (hseq _ rfl) hb
  · exact finished_jumpInd h (hseq _ rfl) hb
  · exact finished_callForm h (hseq _ rfl) hb
  · exact finished_returnForm h (hseq _ rfl)
  · exact finished_break h (hseq _ rfl)
  · exact ⟨_, rfl, finished_returnFromInterrupt h (hseq _ rfl)⟩

theorem runsItsClocks {rest : List Byte} (hr : Ready s) (hd : decode (fetchedBytes s) = .ok (i, rest)) :
    RunsItsClocks i s := by
  obtain ⟨hop, hb⟩ := instrByte_of_decode hd
  have h := reached_decode hr hop (lookup_opcode i)
  have hup : Upcoming i.operands (decodeClock i.opcode i.entry s) := upcoming_decodeClock _ _ hb
  cases hk : kindOf i.mnemonic with
  | read => exact runsItsClocks_read h hup hk
  | write => exact runsItsClocks_write h hup hk
  | modify => exact runsItsClocks_modify h hup hk
  | other => exact runsItsClocks_other h hup hk

end Settle

/-- Settles O46: each clock of the instruction is the row that its form runs at that place, so its clocks stay in
flight up to the last and reach the state of the form. -/
theorem execIsItsClocks : Obligations.ExecIsItsClocks := by
  intro s i rest hr hd
  obtain ⟨u, hx, hbefore, hu⟩ := runsItsClocks hr hd
  refine ⟨fun k h1 hk => ?_, hu ▸ hx⟩
  have hf := hbefore k h1 hk
  exact ⟨hf.phase, hf.t, hf.halted⟩

end Sys2Proof.Machine
end

section
/-! What a row does to the sequencer: it counts one clock, keeps the instruction, and ends it or not. -/

namespace Sys2Proof.Machine

open Sys2Proof

/-- `s'` is one clock after `s`, in the same instruction or sequence, with this phase and page-cross indication. -/
def Counts (s s' : State) (phase : Phase) (crossed : Bool) : Prop :=
  s'.seq.t = s.seq.t + 1 ∧ s'.seq.mnemonic = s.seq.mnemonic ∧ s'.seq.mode = s.seq.mode ∧
    s'.seq.baseCycles = s.seq.baseCycles ∧ s'.seq.phase = phase ∧ s'.seq.crossed = crossed

theorem Counts.crossed_eq {s s' : State} {phase : Phase} {crossed : Bool} (h : Counts s s' phase crossed) :
    s'.seq.crossed = crossed := by
  obtain ⟨-, -, -, -, -, hx⟩ := h
  exact hx

/-! ### Rows that read a latch or call a function -/

section Latches

variable {s : State} {p : Phase} {c : Bool}

theorem withEa_counts {row : Addr → State} (h : s.seq.effectiveAddress.isSome = true)
    (hr : ∀ a, Counts s (row a) p c) : Counts s (withEa s row) p c := by
  obtain ⟨a, ha⟩ := Option.isSome_iff_exists.mp h
  exact withEa_eq ha ▸ hr a

theorem withOperand_counts {row : Byte → State} (h : s.seq.operand.isSome = true)
    (hr : ∀ v, Counts s (row v) p c) : Counts s (withOperand s row) p c := by
  obtain ⟨v, hv⟩ := Option.isSome_iff_exists.mp h
  exact withOperand_eq hv ▸ hr v

theorem withTemp_counts {row : Byte → State} (h : s.seq.tempLatch.isSome = true)
    (hr : ∀ v, Counts s (row v) p c) : Counts s (withTemp s row) p c := by
  obtain ⟨v, hv⟩ := Option.isSome_iff_exists.mp h
  exact withTemp_eq hv ▸ hr v

theorem withFunction_counts {α : Type} {f : Option α} {row : α → State} (h : f.isSome = true)
    (hr : ∀ g, Counts s (row g) p c) : Counts s (withFunction f s row) p c := by
  obtain ⟨g, hg⟩ := Option.isSome_iff_exists.mp h
  exact withFunction_eq hg ▸ hr g

end Latches

/-! ### The rows -/

section Rows

variable {s : State}

theorem rowFetchZp_counts : Counts s (rowFetchZp s) s.seq.phase s.seq.crossed := by simp [Counts, rowFetchZp]

theorem rowFetchOperand_counts : Counts s (rowFetchOperand s) s.seq.phase s.seq.crossed := by
  simp [Counts, rowFetchOperand]

theorem rowFetchTemp_counts : Counts s (rowFetchTemp s) s.seq.phase s.seq.crossed := by simp [Counts, rowFetchTemp]

theorem rowDummyPc_counts : Counts s (rowDummyPc s) s.seq.phase s.seq.crossed := by simp [Counts, rowDummyPc]

theorem brkSkip_counts : Counts s (brkSkip s) s.seq.phase s.seq.crossed := by simp [Counts, brkSkip]

theorem pullDummy_counts : Counts s (pullDummy s) s.seq.phase s.seq.crossed := by simp [Counts, pullDummy]

theorem rtsLow_counts : Counts s (rtsLow s) s.seq.phase s.seq.crossed := by simp [Counts, rtsLow]

theorem rtiStatus_counts : Counts s (rtiStatus s) s.seq.phase s.seq.crossed := by simp [Counts, rtiStatus]

theorem jsrBack_counts : Counts s (jsrBack s) s.seq.phase s.seq.crossed := by simp [Counts, jsrBack]

theorem push_counts (v : Byte) : Counts s (push v s) s.seq.phase s.seq.crossed := by simp [Counts]

theorem vectorLow_counts (vec : Addr) : Counts s (vectorLow vec s) s.seq.phase s.seq.crossed := by
  simp [Counts, vectorLow]

theorem rtsFinal_counts : Counts s (rtsFinal s) .idle s.seq.crossed := by simp [Counts, rtsFinal]

section Address

variable (ha : s.seq.effectiveAddress.isSome = true)

include ha

theorem rowFetchHigh_counts : Counts s (rowFetchHigh s) s.seq.phase s.seq.crossed :=
  withEa_counts ha fun a => by simp [Counts]

theorem rowFetchHighChecked_counts : ∃ c, Counts s (rowFetchHighChecked s) s.seq.phase c := by
  obtain ⟨a, ha⟩ := Option.isSome_iff_exists.mp ha
  rw [rowFetchHighChecked, withEa_eq ha]
  simp [Counts]

theorem rowIndexZp_counts : Counts s (rowIndexZp s) s.seq.phase s.seq.crossed :=
  withEa_counts ha fun a => by simp [Counts]

theorem rowFixup_counts : Counts s (rowFixup s) s.seq.phase s.seq.crossed :=
  withEa_counts ha fun a => by simp [Counts, fixup]

theorem rowRmwRead_counts : Counts s (rowRmwRead s) s.seq.phase s.seq.crossed :=
  withEa_counts ha fun a => by simp [Counts, rmwRead]

theorem rowJumpLow_counts : Counts s (rowJumpLow s) s.seq.phase s.seq.crossed :=
  withEa_counts ha fun a => by simp [Counts, jumpIndLow]

theorem rowJumpHigh_counts (ht : s.seq.tempLatch.isSome = true) :
    Counts s (rowJumpHigh s) .idle s.seq.crossed :=
  withEa_counts ha fun a => withTemp_counts ht fun l => by simp [Counts, jumpIndHigh]

theorem rowRead_counts (hf : (applyOf s.seq.mnemonic).isSome = true) : Counts s (rowRead s) .idle s.seq.crossed :=
  withEa_counts ha fun a => withFunction_counts hf fun f => by simp [Counts, readFinal]

theorem rowReadLocal_counts (hf : (applyOf s.seq.mnemonic).isSome = true) :
    Counts s (rowReadLocal s) .idle s.seq.crossed :=
  withEa_counts ha fun a => withFunction_counts hf fun f => by simp [Counts, readFinalLocal]

theorem rowWrite_counts (hf : (storeOf s.seq.mnemonic).isSome = true) : Counts s (rowWrite s) .idle s.seq.crossed :=
  withEa_counts ha fun a => withFunction_counts hf fun f => by simp [Counts, writeFinal]

theorem rowRmwApply_counts (hv : s.seq.operand.isSome = true) (ht : s.seq.tempLatch.isSome = true)
    (hf : (modifyOf s.seq.mnemonic).isSome = true) : Counts s (rowRmwApply s) s.seq.phase s.seq.crossed :=
  withEa_counts ha fun a => withOperand_counts hv fun v => withTemp_counts ht fun w =>
    withFunction_counts hf fun f => by simp [Counts, rmwApply]

theorem rowRmwWrite_counts (hv : s.seq.operand.isSome = true) (ht : s.seq.tempLatch.isSome = true)
    (hf : (modifyOf s.seq.mnemonic).isSome = true) : Counts s (rowRmwWrite s) .idle s.seq.crossed :=
  withEa_counts ha fun a => withOperand_counts hv fun v => withTemp_counts ht fun w =>
    withFunction_counts hf fun f => by simp [Counts, rmwWrite]

theorem rowPointerHigh_counts (hv : s.seq.operand.isSome = true) :
    Counts s (rowPointerHigh s) s.seq.phase s.seq.crossed :=
  withOperand_counts hv fun p => withEa_counts ha fun a => by simp [Counts]

theorem rowPointerHighChecked_counts (hv : s.seq.operand.isSome = true) :
    ∃ c, Counts s (rowPointerHighChecked s) s.seq.phase c := by
  obtain ⟨a, ha⟩ := Option.isSome_iff_exists.mp ha
  obtain ⟨p, hp⟩ := Option.isSome_iff_exists.mp hv
  rw [rowPointerHighChecked, withOperand_eq hp, withEa_eq ha]
  simp [Counts]

end Address

theorem rowIzxIndex_counts (hv : s.seq.operand.isSome = true) : Counts s (rowIzxIndex s) s.seq.phase s.seq.crossed :=
  withOperand_counts hv fun p => by simp [Counts]

theorem rowPointerLow_counts (hv : s.seq.operand.isSome = true) :
    Counts s (rowPointerLow s) s.seq.phase s.seq.crossed :=
  withOperand_counts hv fun p => by simp [Counts]

theorem rowJumpFinal_counts (ht : s.seq.tempLatch.isSome = true) : Counts s (rowJumpFinal s) .idle s.seq.crossed :=
  withTemp_counts ht fun l => by simp [Counts, jumpFinal]

theorem rowRtsHigh_counts (ht : s.seq.tempLatch.isSome = true) :
    Counts s (rowRtsHigh s) s.seq.phase s.seq.crossed :=
  withTemp_counts ht fun l => by simp [Counts, rtsHigh]

theorem rowVectorHigh_counts (vec : Addr) (ht : s.seq.tempLatch.isSome = true) :
    Counts s (rowVectorHigh vec s) .idle s.seq.crossed :=
  withTemp_counts ht fun l => by simp [Counts, vectorHigh]

theorem rowJsrFinal_counts (hv : s.seq.operand.isSome = true) (ht : s.seq.tempLatch.isSome = true) :
    Counts s (rowJsrFinal s) .idle s.seq.crossed :=
  withOperand_counts hv fun h => withTemp_counts ht fun l => by simp [Counts, jsrFinal]

theorem rowRtiFinal_counts (hv : s.seq.operand.isSome = true) (ht : s.seq.tempLatch.isSome = true) :
    Counts s (rowRtiFinal s) .idle s.seq.crossed :=
  withOperand_counts hv fun p => withTemp_counts ht fun l => by simp [Counts, rtiFinal]

theorem rowExec_counts (hf : (execOf s.seq.mnemonic).isSome = true) : Counts s (rowExec s) .idle s.seq.crossed :=
  withFunction_counts hf fun f => by simp [Counts]

theorem rowModifyAcc_counts (hf : (modifyOf s.seq.mnemonic).isSome = true) :
    Counts s (rowModifyAcc s) .idle s.seq.crossed :=
  withFunction_counts hf fun f => by simp [Counts]

theorem rowReadImm_counts (hf : (applyOf s.seq.mnemonic).isSome = true) :
    Counts s (rowReadImm s) .idle s.seq.crossed :=
  withFunction_counts hf fun f => by simp [Counts]

theorem rowStore_counts (hf : (storeOf s.seq.mnemonic).isSome = true) : Counts s (rowStore s) .idle s.seq.crossed :=
  withFunction_counts hf fun f => by simp [Counts]

theorem rowPullFinal_counts (hf : (applyOf s.seq.mnemonic).isSome = true) :
    Counts s (rowPullFinal s) .idle s.seq.crossed :=
  withFunction_counts hf fun f => by simp [Counts]

theorem rowBranchFix_counts (hc : s.seq.crossed = true) (ht : s.seq.tempLatch.isSome = true) :
    Counts s (rowBranchFix s) .idle s.seq.crossed := by
  rw [rowBranchFix, if_pos hc]
  exact withTemp_counts ht fun page => by simp [Counts, branchFix]

end Rows

end Sys2Proof.Machine
end

section
/-! The tables count down (R134): every row of a sequence but the last goes on, and the last ends it. The three
sequences that can earn an extension stand apart. -/

namespace Sys2Proof.Machine

open Sys2Proof

/-- The latches meet a row's need, part by part. -/
structure Meets (need : Need) (q : SeqState) : Prop where
  ea : need.ea = true → q.effectiveAddress.isSome = true
  operand : need.operand = true → q.operand.isSome = true
  temp : need.temp = true → q.tempLatch.isSome = true
  crossed : ∀ c, need.crossed = some c → q.crossed = c

theorem meets_of_eq_true {need : Need} {q : SeqState} (h : q.meets need = true) : Meets need q := by
  simp only [SeqState.meets, Bool.and_eq_true, Bool.or_eq_true, Bool.not_eq_true'] at h
  obtain ⟨⟨⟨ha, hv⟩, ht⟩, hc⟩ := h
  refine ⟨fun h => ?_, fun h => ?_, fun h => ?_, fun c h => ?_⟩
  · simpa [h] using ha
  · simpa [h] using hv
  · simpa [h] using ht
  · simpa [h] using hc

/-- A row that, with its function and latches, ends the sequence. -/
def Ends (q : Sequence) (need : Need) (row : State → State) : Prop :=
  ∀ s, q.hasFunction s.seq.mnemonic = true → Meets need s.seq → ∃ c, Counts s (row s) .idle c

/-- A row that, with its function and latches, leaves the sequence in flight. -/
def Stays (q : Sequence) (need : Need) (row : State → State) : Prop :=
  ∀ s, q.hasFunction s.seq.mnemonic = true → Meets need s.seq → ∃ c, Counts s (row s) s.seq.phase c

/-- Rows of which the last ends the sequence, with their needs. -/
inductive CountsDown (q : Sequence) : List Need → List (State → State) → Prop where
  | last {need row} (h : Ends q need row) : CountsDown q [need] [row]
  | cons {need row needs rows} (h : Stays q need row) (rest : CountsDown q needs rows) :
      CountsDown q (need :: needs) (row :: rows)

theorem CountsDown.row {q : Sequence} {needs : List Need} {rows : List (State → State)} (h : CountsDown q needs rows)
    {n : Nat} {need : Need} (hn : needs[n]? = some need) :
    ∃ row, rows[n]? = some row ∧
      (n + 1 = rows.length ∧ Ends q need row ∨ n + 1 < rows.length ∧ Stays q need row) := by
  induction h generalizing n with
  | last h =>
    rcases n with _ | n
    · cases hn
      exact ⟨_, rfl, .inl ⟨rfl, h⟩⟩
    · cases hn
  | cons h rest ih =>
    rcases n with _ | n
    · cases hn
      refine ⟨_, rfl, .inr ⟨?_, h⟩⟩
      cases rest <;> simp
    · simpa using ih hn

section Table

variable {q : Sequence} {need : Need}

theorem stays_fetchZp : Stays q need rowFetchZp := fun _ _ _ => ⟨_, rowFetchZp_counts⟩

theorem stays_fetchOperand : Stays q need rowFetchOperand := fun _ _ _ => ⟨_, rowFetchOperand_counts⟩

theorem stays_fetchTemp : Stays q need rowFetchTemp := fun _ _ _ => ⟨_, rowFetchTemp_counts⟩

theorem stays_dummyPc : Stays q need rowDummyPc := fun _ _ _ => ⟨_, rowDummyPc_counts⟩

theorem stays_pullDummy : Stays q need pullDummy := fun _ _ _ => ⟨_, pullDummy_counts⟩

theorem stays_rtsLow : Stays q need rtsLow := fun _ _ _ => ⟨_, rtsLow_counts⟩

theorem stays_fetchHigh (ha : need.ea = true) : Stays q need rowFetchHigh :=
  fun _ _ hm => ⟨_, rowFetchHigh_counts (hm.ea ha)⟩

theorem stays_fetchHighChecked (ha : need.ea = true) : Stays q need rowFetchHighChecked :=
  fun _ _ hm => rowFetchHighChecked_counts (hm.ea ha)

theorem stays_indexZp (ha : need.ea = true) : Stays q need rowIndexZp :=
  fun _ _ hm => ⟨_, rowIndexZp_counts (hm.ea ha)⟩

theorem stays_fixup (ha : need.ea = true) : Stays q need rowFixup :=
  fun _ _ hm => ⟨_, rowFixup_counts (hm.ea ha)⟩

theorem stays_izxIndex (hv : need.operand = true) : Stays q need rowIzxIndex :=
  fun _ _ hm => ⟨_, rowIzxIndex_counts (hm.operand hv)⟩

theorem stays_pointerLow (hv : need.operand = true) : Stays q need rowPointerLow :=
  fun _ _ hm => ⟨_, rowPointerLow_counts (hm.operand hv)⟩

theorem stays_pointerHigh (ha : need.ea = true) (hv : need.operand = true) : Stays q need rowPointerHigh :=
  fun _ _ hm => ⟨_, rowPointerHigh_counts (hm.ea ha) (hm.operand hv)⟩

theorem ends_read (hq : ∀ mn, q.hasFunction mn = (applyOf mn).isSome) (ha : need.ea = true) : Ends q need rowRead :=
  fun _ hf hm => ⟨_, rowRead_counts (hm.ea ha) (hq _ ▸ hf)⟩

theorem ends_write (hq : ∀ mn, q.hasFunction mn = (storeOf mn).isSome) (ha : need.ea = true) : Ends q need rowWrite :=
  fun _ hf hm => ⟨_, rowWrite_counts (hm.ea ha) (hq _ ▸ hf)⟩

theorem countsDown_rmw (hq : ∀ mn, q.hasFunction mn = (modifyOf mn).isSome) :
    CountsDown q [.address, .every, .every] rmwRows :=
  .cons (fun _ _ hm => ⟨_, rowRmwRead_counts (hm.ea rfl)⟩) <|
  .cons (fun _ hf hm => ⟨_, rowRmwApply_counts (hm.ea rfl) (hm.operand rfl) (hm.temp rfl) (hq _ ▸ hf)⟩) <|
  .last fun _ hf hm => ⟨_, rowRmwWrite_counts (hm.ea rfl) (hm.operand rfl) (hm.temp rfl) (hq _ ▸ hf)⟩

theorem countsDown_entry (vec : Addr) (brk : Bool) :
    CountsDown q [.nothing, .nothing, .nothing, .nothing, .second] (entryRows vec brk) :=
  .cons (fun _ _ _ => ⟨_, push_counts _⟩) <| .cons (fun _ _ _ => ⟨_, push_counts _⟩) <|
  .cons (fun _ _ _ => ⟨_, push_counts _⟩) <| .cons (fun _ _ _ => ⟨_, vectorLow_counts vec⟩) <|
  .last fun _ _ hm => ⟨_, rowVectorHigh_counts vec (hm.temp rfl)⟩

/-- A sequence that can earn an extension (R134). -/
def Sequence.canExtend (q : Sequence) : Bool :=
  match q with
  | .absIndexedR | .izyR | .branch => true
  | _ => false

theorem countsDown_rowsOf (q : Sequence) (hq : q.canExtend = false) : CountsDown q (rowNeeds q) (rowsOf q) := by
  cases q with
  | absIndexedR => cases hq
  | izyR => cases hq
  | branch => cases hq
  | implied => exact .last fun _ hf _ => ⟨_, rowExec_counts hf⟩
  | accumulator => exact .last fun _ hf _ => ⟨_, rowModifyAcc_counts hf⟩
  | immediate => exact .last fun _ hf _ => ⟨_, rowReadImm_counts hf⟩
  | zpR => exact .cons stays_fetchZp <| .last (ends_read (fun _ => rfl) rfl)
  | zpW => exact .cons stays_fetchZp <| .last (ends_write (fun _ => rfl) rfl)
  | zpM => exact .cons stays_fetchZp (countsDown_rmw fun _ => rfl)
  | zpIndexedR => exact .cons stays_fetchZp <| .cons (stays_indexZp rfl) <| .last (ends_read (fun _ => rfl) rfl)
  | zpIndexedW => exact .cons stays_fetchZp <| .cons (stays_indexZp rfl) <| .last (ends_write (fun _ => rfl) rfl)
  | zpIndexedM => exact .cons stays_fetchZp <| .cons (stays_indexZp rfl) (countsDown_rmw fun _ => rfl)
  | absR => exact .cons stays_fetchZp <| .cons (stays_fetchHigh rfl) <| .last (ends_read (fun _ => rfl) rfl)
  | absW => exact .cons stays_fetchZp <| .cons (stays_fetchHigh rfl) <| .last (ends_write (fun _ => rfl) rfl)
  | absM => exact .cons stays_fetchZp <| .cons (stays_fetchHigh rfl) (countsDown_rmw fun _ => rfl)
  | absIndexedW =>
    exact .cons stays_fetchZp <| .cons (stays_fetchHighChecked rfl) <| .cons (stays_fixup rfl) <|
      .last (ends_write (fun _ => rfl) rfl)
  | absIndexedM =>
    exact .cons stays_fetchZp <| .cons (stays_fetchHighChecked rfl) <| .cons (stays_fixup rfl)
      (countsDown_rmw fun _ => rfl)
  | izxR =>
    exact .cons stays_fetchOperand <| .cons (stays_izxIndex rfl) <| .cons (stays_pointerLow rfl) <|
      .cons (stays_pointerHigh rfl rfl) <| .last fun _ hf hm => ⟨_, rowReadLocal_counts (hm.ea rfl) hf⟩
  | izxW =>
    exact .cons stays_fetchOperand <| .cons (stays_izxIndex rfl) <| .cons (stays_pointerLow rfl) <|
      .cons (stays_pointerHigh rfl rfl) <| .last (ends_write (fun _ => rfl) rfl)
  | izyW =>
    exact .cons stays_fetchOperand <| .cons (stays_pointerLow rfl) <|
      .cons (fun _ _ hm => rowPointerHighChecked_counts (hm.ea rfl) (hm.operand rfl)) <| .cons (stays_fixup rfl) <|
      .last (ends_write (fun _ => rfl) rfl)
  | jmpAbs => exact .cons stays_fetchTemp <| .last fun _ _ hm => ⟨_, rowJumpFinal_counts (hm.temp rfl)⟩
  | jmpInd =>
    exact .cons stays_fetchZp <| .cons (stays_fetchHigh rfl) <|
      .cons (fun _ _ hm => ⟨_, rowJumpLow_counts (hm.ea rfl)⟩) <|
      .last fun _ _ hm => ⟨_, rowJumpHigh_counts (hm.ea rfl) (hm.temp rfl)⟩
  | jsr =>
    exact .cons stays_fetchTemp <| .cons stays_fetchOperand <| .cons (fun _ _ _ => ⟨_, jsrBack_counts⟩) <|
      .cons (fun _ _ _ => ⟨_, push_counts _⟩) <|
      .last fun _ _ hm => ⟨_, rowJsrFinal_counts (hm.operand rfl) (hm.temp rfl)⟩
  | rts =>
    exact .cons stays_dummyPc <| .cons stays_pullDummy <| .cons stays_rtsLow <|
      .cons (fun _ _ hm => ⟨_, rowRtsHigh_counts (hm.temp rfl)⟩) <| .last fun _ _ _ => ⟨_, rtsFinal_counts⟩
  | push => exact .cons stays_dummyPc <| .last fun _ hf _ => ⟨_, rowStore_counts hf⟩
  | pull => exact .cons stays_dummyPc <| .cons stays_pullDummy <| .last fun _ hf _ => ⟨_, rowPullFinal_counts hf⟩
  | brk => exact .cons (fun _ _ _ => ⟨_, brkSkip_counts⟩) (countsDown_entry irqVector true)
  | rti =>
    exact .cons stays_dummyPc <| .cons stays_pullDummy <| .cons (fun _ _ _ => ⟨_, rtiStatus_counts⟩) <|
      .cons stays_rtsLow <| .last fun _ _ hm => ⟨_, rowRtiFinal_counts (hm.operand rfl) (hm.temp rfl)⟩

theorem countsDown_interrupt (vec : Addr) : CountsDown .brk (rowNeeds .brk) (rowDummyPc :: entryRows vec false) :=
  .cons stays_dummyPc (countsDown_entry vec false)

end Table

end Sys2Proof.Machine
end

section
/-! The count of remaining clocks (R38, R134): bounds, and what one clock takes off it, for the sequences that earn no
extension, the interrupt sequences, the indexed reads and the branches. -/

namespace Sys2Proof.Machine

open Sys2Proof

/-- An instruction of the sequence `q` is in flight in `s` and stands at row T(n + 2), whose need is met. -/
structure Standing (q : Sequence) (n : Nat) (need : Need) (s : State) : Prop where
  table : InTable ⟨s.seq.mnemonic, s.seq.mode, s.seq.baseCycles⟩
  phase : s.seq.phase = .exec
  sequence : sequenceOf s.seq.mnemonic s.seq.mode = some q
  function : q.hasFunction s.seq.mnemonic = true
  base : s.seq.baseCycles = q.baseClocks
  t : s.seq.t = n + 1
  row : (rowNeeds q)[n]? = some need
  meets : Meets need s.seq

theorem standing_of_execReady {s : State} (hp : s.seq.phase = .exec) (h : s.seq.execReady = true) :
    ∃ q n need, Standing q n need s := by
  simp only [SeqState.execReady, Bool.and_eq_true, beq_iff_eq] at h
  obtain ⟨hc, h⟩ := h
  obtain ⟨q, hq, hb, hf⟩ := sequence_of_inTable (inTable_of_tableCycles hc)
  simp only [hq] at h hb hf
  split at h
  · cases h
  next n ht =>
  split at h
  · next need hn => exact ⟨q, n, need, inTable_of_tableCycles hc, hp, hq, hf, hb, ht, hn, meets_of_eq_true h⟩
  · cases h

/-- The extra clocks a sequence has earned, by its count and the page-cross indication (R134). -/
def Sequence.earned (q : Sequence) (t : Nat) (crossed : Bool) : Nat :=
  match q with
  | .absIndexedR | .izyR => crossed.toNat
  | .branch => if t < 2 then 0 else 1 + crossed.toNat
  | _ => 0

theorem extension_eq {q : Sequence} {s : State} (hq : sequenceOf s.seq.mnemonic s.seq.mode = some q) :
    extension s = q.earned s.seq.t s.seq.crossed := by
  rw [extension, hq]
  cases q <;> cases s.seq.crossed <;> rfl

theorem earned_of_not_canExtend {q : Sequence} (hq : q.canExtend = false) (t : Nat) (c : Bool) : q.earned t c = 0 := by
  cases q with
  | absIndexedR | izyR | branch => cases hq
  | _ => rfl

theorem remainingCycles_exec {q : Sequence} {s : State} (hp : s.seq.phase = .exec)
    (hq : sequenceOf s.seq.mnemonic s.seq.mode = some q) :
    remainingCycles s = s.seq.baseCycles + q.earned s.seq.t s.seq.crossed - s.seq.t := by
  rw [remainingCycles, hp, extension_eq hq]

theorem remainingCycles_idle {s : State} (hp : s.seq.phase = .idle) : remainingCycles s = 0 := by
  rw [remainingCycles, hp]

theorem rows_length {q : Sequence} (hq : q.canExtend = false) : (rowsOf q).length + 1 = q.baseClocks := by
  cases q with
  | absIndexedR | izyR | branch => cases hq
  | _ => rfl

/-- In a sequence that has earned its extensions as far as its rows need, a row is still to run, and at most seven. -/
theorem Standing.bounds {q : Sequence} {n : Nat} {need : Need} {s : State} (h : Standing q n need s) :
    n + 2 ≤ q.baseClocks + q.earned (n + 1) s.seq.crossed ∧ q.baseClocks + q.earned (n + 1) s.seq.crossed ≤ n + 8 := by
  have hn := (List.getElem?_eq_some_iff.mp h.row).1
  have hrow := h.row
  have hc := h.meets.crossed
  have hle := Bool.toNat_le s.seq.crossed
  cases q with
  | absIndexedR =>
    have hn : n < 4 := hn
    rcases Nat.lt_or_eq_of_le (Nat.le_of_lt_succ hn) with hn | rfl
    · simp only [Sequence.earned, Sequence.baseClocks]
      omega
    · cases hrow
      simp [hc true rfl, Sequence.earned, Sequence.baseClocks]
  | izyR =>
    have hn : n < 5 := hn
    rcases Nat.lt_or_eq_of_le (Nat.le_of_lt_succ hn) with hn | rfl
    · simp only [Sequence.earned, Sequence.baseClocks]
      omega
    · cases hrow
      simp [hc true rfl, Sequence.earned, Sequence.baseClocks]
  | branch =>
    have hn : n < 3 := hn
    rcases Nat.lt_or_eq_of_le (Nat.le_of_lt_succ hn) with hn | rfl
    · simp only [Sequence.earned, Sequence.baseClocks]
      split <;> omega
    · cases hrow
      simp [hc true rfl, Sequence.earned, Sequence.baseClocks]
  | _ =>
    simp only [rowNeeds, List.length_cons, List.length_nil] at hn
    simp only [Sequence.earned, Sequence.baseClocks]
    omega

theorem Standing.clock_eq {q : Sequence} {n : Nat} {need : Need} {s : State} (h : Standing q n need s)
    (hh : s.halted = none) (hs : s.stallCycles = 0) {row : State → State} (hr : (rowsOf q)[n]? = some row) :
    clock s = row (poll s) := by
  rw [clock_inFlight hh hs (by simp [h.phase])]
  simp only [microStep, poll_seq, h.phase, h.sequence]
  exact rowOf_eq hr h.t

/-- One clock that goes on. -/
theorem remainingCycles_counts {q : Sequence} {s s' : State} {c : Bool}
    (hq : sequenceOf s.seq.mnemonic s.seq.mode = some q) (hc : Counts s s' .exec c) :
    remainingCycles s' = s.seq.baseCycles + q.earned (s.seq.t + 1) c - (s.seq.t + 1) := by
  obtain ⟨ht, hmn, hm, hb, hp, hx⟩ := hc
  rw [remainingCycles_exec hp (by rw [hmn, hm, hq]), ht, hb, hx]

/-- A sequence that earns no extension drops its count on each clock. -/
theorem Standing.countdown {q : Sequence} {n : Nat} {need : Need} {s : State} (h : Standing q n need s)
    (hh : s.halted = none) (hs : s.stallCycles = 0) (hq : q.canExtend = false) :
    remainingCycles (clock s) + 1 = remainingCycles s := by
  obtain ⟨row, hr, hrow⟩ := (countsDown_rowsOf q hq).row h.row
  have hlen := rows_length hq
  rw [remainingCycles_exec h.phase h.sequence, earned_of_not_canExtend hq, h.base, h.t, h.clock_eq hh hs hr]
  rcases hrow with ⟨hlast, hends⟩ | ⟨hmore, hstays⟩
  · obtain ⟨c, hc⟩ := hends (poll s) h.function h.meets
    obtain ⟨-, -, -, -, hp, -⟩ := hc
    rw [remainingCycles_idle hp]
    omega
  · obtain ⟨c, hc⟩ := hstays (poll s) h.function h.meets
    rw [poll_seq, h.phase] at hc
    rw [remainingCycles_counts h.sequence hc, earned_of_not_canExtend hq, h.base, h.t]
    omega

/-- An interrupt sequence in flight stands at a row of the rows T2 to T7, which it shares with BRK (R302). -/
theorem interrupt_row {q : SeqState} (h : q.interruptReady = true) :
    q.baseCycles = 7 ∧ ∃ n need, q.t = n + 1 ∧ (rowNeeds .brk)[n]? = some need ∧ Meets need q := by
  simp only [SeqState.interruptReady, Bool.and_eq_true, beq_iff_eq, decide_eq_true_eq, Bool.or_eq_true, bne_iff_ne] at h
  obtain ⟨⟨⟨hb, h1⟩, h6⟩, ht⟩ := h
  obtain ⟨n, hn⟩ : ∃ n, q.t = n + 1 := ⟨q.t - 1, by omega⟩
  refine ⟨hb, n, if n = 5 then .second else .nothing, hn, ?_, ?_⟩
  · have : n < 6 := by omega
    interval_cases n <;> rfl
  · split
    · refine ⟨nofun, nofun, fun _ => ht.resolve_left (by omega), nofun⟩
    · exact ⟨nofun, nofun, nofun, nofun⟩

theorem remainingCycles_interrupt {s : State} (hp : s.seq.phase = .nmiSeq ∨ s.seq.phase = .irqSeq) :
    remainingCycles s = s.seq.baseCycles - s.seq.t := by
  rcases hp with hp | hp <;> rw [remainingCycles, hp]

theorem clock_interrupt {s : State} (hh : s.halted = none) (hs : s.stallCycles = 0)
    (hp : s.seq.phase = .nmiSeq ∨ s.seq.phase = .irqSeq) : ∃ vec, clock s = rowInterrupt vec (poll s) := by
  rw [clock_inFlight hh hs (by rcases hp with hp | hp <;> simp [hp]), microStep, poll_seq]
  rcases hp with hp | hp <;> rw [hp] <;> exact ⟨_, rfl⟩

/-- An NMI or IRQ sequence in flight drops its count on each clock (R302). -/
theorem interrupt_countdown {s : State} (hh : s.halted = none) (hs : s.stallCycles = 0)
    (hp : s.seq.phase = .nmiSeq ∨ s.seq.phase = .irqSeq) (h : s.seq.interruptReady = true) :
    remainingCycles (clock s) + 1 = remainingCycles s := by
  obtain ⟨hb, n, need, ht, hn, hm⟩ := interrupt_row h
  obtain ⟨vec, hclock⟩ := clock_interrupt hh hs hp
  obtain ⟨row, hr, hrow⟩ := (countsDown_interrupt vec).row hn
  rw [hclock, rowInterrupt_eq hr (show (poll s).seq.t = n + 1 from ht), remainingCycles_interrupt hp, hb, ht]
  rcases hrow with ⟨hlast, hends⟩ | ⟨hmore, hstays⟩
  · obtain ⟨c, -, -, -, -, hidle, -⟩ := hends (poll s) rfl hm
    have : n = 5 := by simpa [entryRows] using hlast
    rw [remainingCycles_idle hidle]
    omega
  · obtain ⟨c, ht', -, -, hb', hp', -⟩ := hstays (poll s) rfl hm
    have : n + 1 < 6 := by simpa [entryRows] using hmore
    rw [poll_seq] at ht' hb' hp'
    rw [remainingCycles_interrupt (hp'.symm ▸ hp), hb', ht', hb, ht]
    omega

/-! ### The sequences that can earn an extension -/

/-- What a clock of an indexed read does: it ends after the clocks earned so far, or goes on; a page cross, once
found, stays. -/
def IndexedClock (q : Sequence) (n : Nat) (s s' : State) : Prop :=
  (Counts s s' .idle s.seq.crossed ∧ n + 2 = q.baseClocks + s.seq.crossed.toNat) ∨
    ∃ c, Counts s s' .exec c ∧ (s.seq.crossed = true → c = true)

section Indexed

variable {q : Sequence} {n : Nat} {need : Need} {s : State} {row : State → State}

theorem Standing.indexed_goes (h : Standing q n need s) {s' : State}
    (hrow : Counts s s' s.seq.phase s.seq.crossed) : IndexedClock q n s s' :=
  .inr ⟨_, h.phase ▸ hrow, id⟩

theorem Standing.indexed_check (h : Standing q n need s) (hc : s.seq.crossed = false) {s' : State}
    (hrow : ∃ c, Counts s s' s.seq.phase c) : IndexedClock q n s s' := by
  obtain ⟨c, hrow⟩ := hrow
  exact .inr ⟨c, h.phase ▸ hrow, by simp [hc]⟩

theorem Standing.indexed_fixupOrRead (h : Standing q n need s) (hn : n + 2 = q.baseClocks)
    (ha : s.seq.effectiveAddress.isSome = true)
    (hrow : ∀ a, Counts (setEa a s) (row (setEa a s)) .idle s.seq.crossed) :
    IndexedClock q n s (rowFixupOrRead row s) := by
  rw [rowFixupOrRead]
  split
  · exact h.indexed_goes (rowFixup_counts ha)
  · next hc => exact .inl ⟨withEa_counts ha fun a => hrow _, by simpa [hc] using hn⟩

theorem indexed_afterFixup (hn : n + 2 = q.baseClocks + 1) (hc : s.seq.crossed = true)
    (hrow : Counts s (row s) .idle s.seq.crossed) : IndexedClock q n s (rowAfterFixup row s) := by
  rw [rowAfterFixup, if_pos hc]
  exact .inl ⟨hrow, by simpa [hc] using hn⟩

/-- Polling leaves the sequencer alone (R130). -/
theorem Standing.afterPoll (h : Standing q n need s) : Standing q n need (poll s) :=
  ⟨h.table, h.phase, h.sequence, h.function, h.base, h.t, h.row, h.meets⟩

theorem Standing.indexed_clock (h : Standing q n need s) (hh : s.halted = none) (hs : s.stallCycles = 0)
    (hq : q = .absIndexedR ∨ q = .izyR) : IndexedClock q n s (clock s) := by
  have hp : Standing q n need (poll s) := h.afterPoll
  have hrow := h.row
  have hf := h.function
  obtain ⟨ha, hv, -, hc⟩ := h.meets
  rcases hq with rfl | rfl
  · match n, hrow with
    | 0, _ => exact h.clock_eq hh hs rfl ▸ hp.indexed_goes rowFetchZp_counts
    | 1, rfl => exact h.clock_eq hh hs rfl ▸ hp.indexed_check (hc false rfl) (rowFetchHighChecked_counts (ha rfl))
    | 2, rfl => exact h.clock_eq hh hs rfl ▸ hp.indexed_fixupOrRead rfl (ha rfl) fun a => rowRead_counts rfl hf
    | 3, rfl => exact h.clock_eq hh hs rfl ▸ indexed_afterFixup rfl (hc true rfl) (rowRead_counts (ha rfl) hf)
  · match n, hrow with
    | 0, _ => exact h.clock_eq hh hs rfl ▸ hp.indexed_goes rowFetchOperand_counts
    | 1, rfl => exact h.clock_eq hh hs rfl ▸ hp.indexed_goes (rowPointerLow_counts (hv rfl))
    | 2, rfl =>
      exact h.clock_eq hh hs rfl ▸
        hp.indexed_check (hc false rfl) (rowPointerHighChecked_counts (ha rfl) (hv rfl))
    | 3, rfl => exact h.clock_eq hh hs rfl ▸ hp.indexed_fixupOrRead rfl (ha rfl) fun a => rowReadLocal_counts rfl hf
    | 4, rfl => exact h.clock_eq hh hs rfl ▸ indexed_afterFixup rfl (hc true rfl) (rowReadLocal_counts (ha rfl) hf)

theorem Standing.indexed_countdown (h : Standing q n need s) (hh : s.halted = none) (hs : s.stallCycles = 0)
    (hq : q = .absIndexedR ∨ q = .izyR) :
    (s.seq.crossed = false ∧ (clock s).seq.crossed = true → remainingCycles (clock s) = remainingCycles s) ∧
      (¬(s.seq.crossed = false ∧ (clock s).seq.crossed = true) →
        remainingCycles (clock s) + 1 = remainingCycles s) := by
  have hearned : ∀ t c, q.earned t c = c.toNat := by rcases hq with rfl | rfl <;> exact fun _ _ => rfl
  have hbounds := h.bounds.1
  rw [remainingCycles_exec h.phase h.sequence, h.base, h.t]
  rw [hearned] at hbounds ⊢
  rcases h.indexed_clock hh hs hq with ⟨hcounts, hn⟩ | ⟨c, hcounts, hkeep⟩
  · obtain ⟨-, -, -, -, hp, hx⟩ := hcounts
    rw [remainingCycles_idle hp, hx]
    exact ⟨fun ⟨h0, h1⟩ => absurd h1 (by simp [h0]), fun _ => by omega⟩
  · rw [remainingCycles_counts h.sequence hcounts, hearned, h.base, h.t, hcounts.crossed_eq]
    cases hx : s.seq.crossed <;> cases c <;> simp [hx] at hkeep hbounds ⊢ <;> omega

end Indexed

/-! ### Branches -/

section Branch

variable {n : Nat} {need : Need} {s : State}

/-- A clock of a branch: T2 goes on when the condition holds, T3 goes on across a page, every other ends after the
clocks earned so far. -/
theorem Standing.branch_clock (h : Standing .branch n need s) (hh : s.halted = none) (hs : s.stallCycles = 0) :
    (n = 0 ∧ branchCond s.seq.mnemonic s.regs = some true ∧ Counts s (clock s) .exec s.seq.crossed) ∨
      (n = 1 ∧ Counts s (clock s) .exec true) ∨
      (Counts s (clock s) .idle s.seq.crossed ∧ n = Sequence.branch.earned (n + 1) s.seq.crossed ∧
        ¬(n = 0 ∧ branchCond s.seq.mnemonic s.regs = some true)) := by
  have hrow := h.row
  have hp := h.phase
  obtain ⟨-, hv, ht, hc⟩ := h.meets
  match n, hrow with
  | 0, _ =>
    obtain ⟨cond, hcond⟩ := Option.isSome_iff_exists.mp h.function
    rw [h.clock_eq hh hs rfl, rowBranchFetch_eq (s := poll s) hcond rfl, branchCond_eq hcond, poll_regs]
    by_cases htaken : cond s.regs = true
    · rw [if_pos htaken]
      exact .inl ⟨rfl, by rw [htaken], by simp [Counts, branchFetch, hp]⟩
    · rw [if_neg htaken]
      exact .inr (.inr ⟨by simp [Counts, branchFetch], rfl, by simpa using htaken⟩)
  | 1, rfl =>
    obtain ⟨offset, hoff⟩ := Option.isSome_iff_exists.mp (hv rfl)
    rw [h.clock_eq hh hs rfl, rowBranchTake_eq (s := poll s) hoff, hc false rfl]
    split
    · next hpage => exact .inr (.inr ⟨by simpa [Counts, branchTake] using hpage, rfl, by simp⟩)
    · next hpage => exact .inr (.inl ⟨rfl, by simpa [Counts, branchTake, hp] using hpage⟩)
  | 2, rfl =>
    rw [h.clock_eq hh hs rfl]
    exact .inr (.inr ⟨rowBranchFix_counts (s := poll s) (hc true rfl) (ht rfl), by rw [hc true rfl]; rfl, by simp⟩)

theorem Standing.branch_countdown (h : Standing .branch n need s) (hh : s.halted = none) (hs : s.stallCycles = 0) :
    (s.seq.t = 1 ∧ branchCond s.seq.mnemonic s.regs = some true ∨
        s.seq.crossed = false ∧ (clock s).seq.crossed = true → remainingCycles (clock s) = remainingCycles s) ∧
      (¬(s.seq.t = 1 ∧ branchCond s.seq.mnemonic s.regs = some true ∨
        s.seq.crossed = false ∧ (clock s).seq.crossed = true) →
          remainingCycles (clock s) + 1 = remainingCycles s) := by
  have hrow := h.row
  have hc := h.meets.crossed
  rw [remainingCycles_exec h.phase h.sequence, h.base, h.t]
  rcases h.branch_clock hh hs with ⟨rfl, htaken, hcounts⟩ | ⟨rfl, hcounts⟩ | ⟨hcounts, hn, hnot⟩
  · cases hrow
    rw [remainingCycles_counts h.sequence hcounts, h.base, h.t, hc false rfl]
    exact ⟨fun _ => rfl, fun hnot => absurd (.inl ⟨rfl, htaken⟩) hnot⟩
  · cases hrow
    rw [remainingCycles_counts h.sequence hcounts, h.base, h.t, hc false rfl]
    exact ⟨fun _ => rfl, fun hnot => absurd (.inr ⟨rfl, hcounts.crossed_eq⟩) hnot⟩
  · obtain ⟨-, -, -, -, hp, hx⟩ := hcounts
    rw [remainingCycles_idle hp, hx, ← hn, show Sequence.branch.baseClocks = 2 from rfl]
    refine ⟨?_, fun _ => by omega⟩
    rintro (⟨ht, htaken⟩ | ⟨h0, h1⟩)
    · exact absurd ⟨by omega, htaken⟩ hnot
    · exact absurd h1 (by simp [h0])

end Branch

/-! ### The obligation -/

/-- The modes and kinds of the sequences that can earn an extension, over the table (R99, R135). -/
theorem extends_of_inTable {e : Entry} {q : Sequence} (h : InTable e) (hq : sequenceOf e.mnemonic e.mode = some q) :
    (e.mode = .rel ↔ q = .branch) ∧
      (kindOf e.mnemonic = .read ∧ e.mode ∈ [.abx, .aby, .izy] ↔ q = .absIndexedR ∨ q = .izyR) := by
  have key : ∀ row ∈ opcodeMap, ∀ o ∈ row, (o.all fun e => (sequenceOf e.mnemonic e.mode).all fun q =>
      decide ((e.mode = .rel ↔ q = .branch) ∧
        (kindOf e.mnemonic = .read ∧ e.mode ∈ [.abx, .aby, .izy] ↔ q = .absIndexedR ∨ q = .izyR))) = true := by
    decide
  obtain ⟨row, hrow, he⟩ := h
  simpa only [Option.all_some, hq, decide_eq_true_eq] using key row hrow _ he

/-- R38: the count is 0 in phase Idle alone, and at most 7. -/
theorem remainingCycles_bounds {s : State} (hw : s.seq.wf = true) :
    (remainingCycles s = 0 ↔ s.seq.phase = .idle) ∧ remainingCycles s ≤ 7 := by
  have interrupt (hp : s.seq.phase = .nmiSeq ∨ s.seq.phase = .irqSeq) (hr : s.seq.interruptReady = true) :
      remainingCycles s ≠ 0 ∧ remainingCycles s ≤ 7 := by
    obtain ⟨hb, n, need, ht, hn, -⟩ := interrupt_row hr
    have hlt : n < 6 := (List.getElem?_eq_some_iff.mp hn).1
    rw [remainingCycles_interrupt hp, hb, ht]
    omega
  unfold SeqState.wf at hw
  cases hp : s.seq.phase <;> rw [hp] at hw
  case idle => simp [remainingCycles_idle hp]
  case exec =>
    obtain ⟨q, n, need, h⟩ := standing_of_execReady hp hw
    obtain ⟨hlo, hhi⟩ := h.bounds
    rw [remainingCycles_exec hp h.sequence, h.base, h.t]
    simp only [reduceCtorEq, iff_false]
    omega
  case nmiSeq => simpa using interrupt (.inl hp) hw
  case irqSeq => simpa using interrupt (.inr hp) hw

/-- R134: what a clock in flight takes off the count, by the sequence. -/
theorem exec_countdown {s : State} (hh : s.halted = none) (hs : s.stallCycles = 0) (hp : s.seq.phase = .exec)
    (hw : s.seq.execReady = true) :
    let taken : Prop := s.seq.mode = .rel ∧ s.seq.t = 1 ∧ branchCond s.seq.mnemonic s.regs = some true
    let crosses : Prop :=
      (s.seq.mode = .rel ∨ (kindOf s.seq.mnemonic = .read ∧ s.seq.mode ∈ [.abx, .aby, .izy])) ∧
        s.seq.crossed = false ∧ (clock s).seq.crossed = true
    (taken ∨ crosses → remainingCycles (clock s) = remainingCycles s) ∧
      (¬(taken ∨ crosses) → remainingCycles (clock s) + 1 = remainingCycles s) := by
  obtain ⟨q, n, need, h⟩ := standing_of_execReady hp hw
  obtain ⟨hrel, hidx⟩ := extends_of_inTable h.table h.sequence
  simp only [hrel, hidx]
  by_cases hb : q = .branch
  · subst hb
    simpa using h.branch_countdown hh hs
  by_cases hi : q = .absIndexedR ∨ q = .izyR
  · simpa [hb, hi] using h.indexed_countdown hh hs hi
  · have hq : q.canExtend = false := by
      cases q <;> simp_all [Sequence.canExtend]
    simpa [hb, hi] using h.countdown hh hs hq

/-- After the decode clock the count is the table's less one (R133). -/
theorem decode_countdown {s : State} {e : Entry} (hr : Ready s) (he : lookup (instrByte 0 s) = some e) :
    remainingCycles (clock s) + 1 = e.cycles := by
  obtain ⟨q, hq, hc, -⟩ := sequence_of_inTable (inTable_of_lookup he)
  have hpos : 2 ≤ q.baseClocks := by cases q <;> decide
  have hearned : q.earned 1 false = 0 := by cases q <;> rfl
  rw [clock_ready hr rfl he, remainingCycles_exec (q := q) rfl hq]
  simp only [decodeClock_seq, hearned]
  omega

/-- Settles O48: in flight the sequencer stands at a row of its table, whose clock takes one off the count unless it
earns an extension; the decode clock leaves the table's count less one. -/
theorem remainingCyclesCountDown : Obligations.RemainingCyclesCountDown := by
  intro s hw
  have hseq : s.seq.wf = true := by
    simp only [State.wf, Bool.and_eq_true] at hw
    obtain ⟨⟨⟨-, hseq⟩, -⟩, -⟩ := hw
    exact hseq
  obtain ⟨hidle, hle⟩ := remainingCycles_bounds hseq
  refine ⟨hidle, hle, fun hh hs hp => ?_, fun hr e he => decode_countdown hr he⟩
  unfold SeqState.wf at hseq
  cases hphase : s.seq.phase <;> rw [hphase] at hseq
  case idle => exact absurd hphase hp
  case exec => simpa using exec_countdown hh hs hphase hseq
  case nmiSeq => simpa using interrupt_countdown hh hs (.inl hphase) hseq
  case irqSeq => simpa using interrupt_countdown hh hs (.inr hphase) hseq

end Sys2Proof.Machine
end

section
/-! Every operand form of the R and W kinds, whole: what an instruction of the kind does is fixed by its form and the
function of its mnemonic (R92, R101, R137), the indexed and indirect forms included. -/

namespace Sys2Proof.Machine

open Sys2Proof

/-- Mode and operand bytes determine the form: the converse of `formOf_spec`. -/
theorem formOf_eq_some {i : Instr} {f : Form} (hm : i.mode = f.mode) (ho : i.operands = f.bytes) :
    formOf i = some f := by
  unfold formOf
  rw [hm, ho]
  cases f <;> simp [Form.mode, Form.bytes]

theorem readForm_completes (ap : Apply) (op : Byte) (e : Entry) (s : State) (f : Form) :
    EndsWith (readForm ap f (decodeClock op e s)) s s.latches.nmiPending
      (f.prep true op s ++ [(.read, f.ea s, f.value true op s)])
      (ap (f.value true op s) (pcAfter (f.bytes.length + 1) s)) s.readMem := by
  cases f with
  | imm v => exact readImm_completes ap op e s v
  | zp p => exact readZp_completes ap op e s p
  | zpx p => exact readZpx_completes ap op e s p
  | zpy p => exact readZpy_completes ap op e s p
  | abs a => exact readAbs_completes ap op e s a
  | abx base => exact readAbx_completes ap op e s base
  | aby base => exact readAby_completes ap op e s base
  | izx p => exact readIzx_completes ap op e s p
  | izy p => exact readIzy_completes ap op e s p

/-- No W-kind instruction has an immediate form (R101). -/
theorem writeForm_completes (value : RegisterFile → Byte) (op : Byte) (e : Entry) (s : State) {f : Form}
    (hf : f.mode ≠ .imm) :
    EndsWith (writeForm value f (decodeClock op e s)) s s.latches.nmiPending
      (f.prep false op s ++ [(.write, f.ea s, value (pcAfter (f.bytes.length + 1) s))])
      (pcAfter (f.bytes.length + 1) s)
      (fun a => if a = f.ea s then value (pcAfter (f.bytes.length + 1) s) else s.readMem a) := by
  cases f with
  | imm v => exact absurd rfl hf
  | zp p => exact writeZp_completes value op e s p
  | zpx p => exact writeZpx_completes value op e s p
  | zpy p => exact writeZpy_completes value op e s p
  | abs a => exact writeAbs_completes value op e s a
  | abx base => exact writeAbx_completes value op e s base
  | aby base => exact writeAby_completes value op e s base
  | izx p => exact writeIzx_completes value op e s p
  | izy p => exact writeIzy_completes value op e s p

section Kind

variable {i : Instr} {f : Form}

/-- An R-kind instruction reads as its form says and applies the function of its mnemonic. -/
theorem readsAs_of_form {ap : Apply} (s : State) (hk : kindOf i.mnemonic = .read) (ha : applyOf i.mnemonic = some ap)
    (hm : i.mode = f.mode) (ho : i.operands = f.bytes) : ReadsAs i i.opcode f s ap := by
  have hf := formOf_eq_some hm ho
  refine ⟨encode_of_formOf hf, ?_⟩
  rw [Completes, exec_read s hk ha hf]
  exact readForm_completes ap i.opcode i.entry s f

theorem mode_ne_imm_of_write (hk : kindOf i.mnemonic = .write) : i.mode ≠ .imm := by
  cases i <;> cases hk <;> exact nofun

/-- A W-kind instruction writes the register of its mnemonic as its form says; no clock before the write changes it. -/
theorem writesAs_of_form {value : RegisterFile → Byte} (s : State) (hk : kindOf i.mnemonic = .write)
    (ha : storeOf i.mnemonic = some value) (hm : i.mode = f.mode) (ho : i.operands = f.bytes) :
    WritesAs i i.opcode f s (value s.regs) := by
  have hf := formOf_eq_some hm ho
  refine ⟨encode_of_formOf hf, ?_⟩
  rw [Completes, exec_write s hk ha hf, ← storeOf_pcAfter ha (f.bytes.length + 1) s]
  exact writeForm_completes value i.opcode i.entry s (hm ▸ mode_ne_imm_of_write hk)

end Kind

end Sys2Proof.Machine
end

section
/-! LDA and STA (R201, R204): the eight reads and the seven writes of the accumulator. -/

namespace Sys2Proof.Machine

open Sys2Proof

/-- An instruction of mnemonic LDA loads A by the form it has, and sets Z and N from the byte (R201). -/
theorem readsAs_lda {i : Instr} {f : Form} (s : State) (hi : i.mnemonic = .lda) (hm : i.mode = f.mode)
    (ho : i.operands = f.bytes) :
    ReadsAs i i.opcode f s fun m r => { r with a := m, z := m == 0#8, n := m.getLsbD 7 } :=
  readsAs_of_form (ap := applyLda) s (hi ▸ rfl) (hi ▸ rfl) hm ho

/-- An instruction of mnemonic STA stores A by the form it has (R204). -/
theorem writesAs_sta {i : Instr} {f : Form} (s : State) (hi : i.mnemonic = .sta) (hm : i.mode = f.mode)
    (ho : i.operands = f.bytes) : WritesAs i i.opcode f s s.regs.a :=
  writesAs_of_form (value := storeSta) s (hi ▸ rfl) (hi ▸ rfl) hm ho

/-- Settles O8: each of the eight instructions has the mnemonic LDA and its form's mode and operand bytes, which fix its
whole effect. -/
theorem ldaLoadsAccumulator : Obligations.LdaLoadsAccumulator := by
  intro s load
  and_intros <;> exact fun _ => readsAs_lda s rfl rfl rfl

/-- Settles O10: each of the seven instructions has the mnemonic STA and its form's mode and operand bytes, which fix
its whole effect. -/
theorem staStoresAccumulator : Obligations.StaStoresAccumulator := by
  intro s
  and_intros <;> exact fun _ => writesAs_sta s rfl rfl rfl

end Sys2Proof.Machine
end

section
/-! Addition (R220, R237): what `addC` computes over the integers, and its V as signed overflow. -/

namespace Sys2Proof.Machine

open Sys2Proof

/-- The wrapped result of R220 is the sum as a byte. -/
theorem addC_eq (a m : Byte) (cin : Bool) :
    addC a m cin =
      (BitVec.ofNat 8 (a.toNat + m.toNat + cin.toNat), decide (0xFF < a.toNat + m.toNat + cin.toNat),
        ((~~~a ^^^ m) &&& (a ^^^ BitVec.ofNat 8 (a.toNat + m.toNat + cin.toNat)) &&& 0x80#8) != 0#8) := by
  have hr (n : Nat) : BitVec.ofNat 8 (n % 256) = BitVec.ofNat 8 n := BitVec.eq_of_toNat_eq (by simp)
  simp only [addC, hr, gt_iff_lt]

/-- Masking with $80 tests the sign bit. -/
theorem and_0x80_ne_zero (v : Byte) : ((v &&& 0x80#8) != 0#8) = v.msb := by
  rw [show 0x80#8 = BitVec.twoPow 8 7 from rfl, BitVec.and_twoPow, BitVec.msb_eq_getLsbD_last]
  cases v.getLsbD 7 <;> rfl

/-- V of an addition: the operands have the same sign and the result has the other one. -/
theorem addC_overflow (a m : Byte) (cin : Bool) :
    (addC a m cin).2.2 = true ↔
      a.msb = m.msb ∧ (BitVec.ofNat 8 (a.toNat + m.toNat + cin.toNat)).msb ≠ a.msb := by
  rw [addC_eq, and_0x80_ne_zero]
  cases ha : a.msb <;> cases hm : m.msb <;> simp [ha, hm]

/-- The result's sign differs from that of two operands of one sign exactly when the sum of their two's-complement
values leaves the signed range; operands of different signs never do. -/
theorem sign_changes_iff (a m : Byte) (cin : Bool) :
    a.msb = m.msb ∧ (BitVec.ofNat 8 (a.toNat + m.toNat + cin.toNat)).msb ≠ a.msb ↔
      a.toInt + m.toInt + cin.toNat < -128 ∨ 127 < a.toInt + m.toInt + cin.toNat := by
  have ha := a.isLt
  have hm := m.isLt
  have hc := cin.toNat_le
  simp only [BitVec.toInt_eq_msb_cond, BitVec.msb_eq_decide, BitVec.toNat_ofNat, decide_eq_true_eq, decide_eq_decide,
    ne_eq]
  split <;> split <;> omega

/-- Settles O57: the carry is R220's comparison of the unsigned sum, and V is a change of sign, which is signed
overflow. -/
theorem additionOverflowIsSignedOverflow : Obligations.AdditionOverflowIsSignedOverflow := by
  intro a m cin
  refine ⟨by rw [addC_eq], by simp [addC_eq], ?_⟩
  exact (addC_overflow a m cin).trans (sign_changes_iff a m cin)

end Sys2Proof.Machine
end

section
/-! ADC, CMP, CPX and CPY (R222, R228 to R230): each reads by the form it has and applies its mnemonic's function. -/

namespace Sys2Proof.Machine

open Sys2Proof

/-- The effect of ADC of R222, over the integers. -/
def adcEffect (m : Byte) (r : RegisterFile) : RegisterFile :=
  let sum := r.a.toNat + m.toNat + r.c.toNat
  let res := BitVec.ofNat 8 sum
  { r with
    a := res, c := decide (0xFF < sum), v := ((~~~r.a ^^^ m) &&& (r.a ^^^ res) &&& 0x80#8) != 0#8
    z := res == 0#8, n := res.getLsbD 7 }

theorem applyAdc_eq : applyAdc = adcEffect := by
  funext m r
  simp only [applyAdc, addC_eq]
  rfl

/-- An instruction of mnemonic ADC adds by the form it has (R222). -/
theorem readsAs_adc {i : Instr} {f : Form} (s : State) (hi : i.mnemonic = .adc) (hm : i.mode = f.mode)
    (ho : i.operands = f.bytes) : ReadsAs i i.opcode f s adcEffect :=
  applyAdc_eq ▸ readsAs_of_form (ap := applyAdc) s (hi ▸ rfl) (hi ▸ rfl) hm ho

/-- An R-kind instruction whose function compares the register `reg` does so by the form it has (R221). -/
theorem readsAs_compare {i : Instr} {f : Form} {reg : RegisterFile → Byte} (s : State)
    (hk : kindOf i.mnemonic = .read) (ha : applyOf i.mnemonic = some fun m r => compareFlags (reg r) m r)
    (hm : i.mode = f.mode) (ho : i.operands = f.bytes) :
    ReadsAs i i.opcode f s fun m r =>
      { r with c := decide (m.toNat ≤ (reg r).toNat), z := reg r == m, n := (reg r - m).getLsbD 7 } :=
  readsAs_of_form s hk ha hm ho

/-- Settles O13: each of the eight instructions has the mnemonic ADC and its form's mode and operand bytes. -/
theorem adcAddsWithCarry : Obligations.AdcAddsWithCarry := by
  intro s add
  and_intros <;> exact fun _ => readsAs_adc s rfl rfl rfl

/-- Settles O17: each of the eight instructions has CMP's function, which compares A, and its form's mode and operand
bytes. -/
theorem cmpComparesAccumulator : Obligations.CmpComparesAccumulator := by
  intro s compare
  and_intros <;> exact fun _ => readsAs_compare (reg := (·.a)) s rfl rfl rfl rfl

/-- Settles O18: CPX's function compares X and CPY's compares Y, and each instruction has its form's mode and operand
bytes. -/
theorem cpxAndCpyCompareTheIndexRegisters : Obligations.CpxAndCpyCompareTheIndexRegisters := by
  intro s compareX compareY
  and_intros
  iterate 3 exact fun _ => readsAs_compare (reg := (·.x)) s rfl rfl rfl rfl
  iterate 3 exact fun _ => readsAs_compare (reg := (·.y)) s rfl rfl rfl rfl

end Sys2Proof.Machine
end

section
/-! The M kind in memory, whole (R146, R149, R152, R155), and INC and DEC (R231, R232). -/

namespace Sys2Proof.Machine

open Sys2Proof

/-- The forms that `modifySequence` has a sequence for are those of the M kind in memory (R101). -/
theorem modifyForm_completes (modify : Modify) (op : Byte) (e : Entry) (s : State) {f : Form} {q : Sequence}
    (hf : modifySequence f.mode = some q) :
    let m := f.value false op s
    let r := (modify m s.regs.c).1
    EndsWith (modifyForm modify f (decodeClock op e s)) s s.latches.nmiPending
      (f.prep false op s ++ [(.read, f.ea s, m), (.dummyWrite, f.ea s, m), (.write, f.ea s, r)])
      { pcAfter (f.bytes.length + 1) s with
        z := r == 0#8, n := r.getLsbD 7, c := (modify m s.regs.c).2.getD s.regs.c }
      (fun a => if a = f.ea s then r else s.readMem a) := by
  cases f with
  | zp p => exact modifyZp_completes modify op e s p
  | zpx p => exact modifyZpx_completes modify op e s p
  | abs a => exact modifyAbs_completes modify op e s a
  | abx base => exact modifyAbx_completes modify op e s base
  | imm | zpy | aby | izx | izy => cases hf

/-- An M-kind instruction in a memory form modifies the byte as its form says, with the function of its mnemonic at the
carry of the start state. -/
theorem modifiesAs_of_form {i : Instr} {f : Form} {modify : Modify} (s : State) (hk : kindOf i.mnemonic = .modify)
    (ha : modifyOf i.mnemonic = some modify) (hm : i.mode = f.mode) (ho : i.operands = f.bytes) :
    ModifiesAs i i.opcode f s (modify · s.regs.c) := by
  have hf := formOf_eq_some hm ho
  obtain ⟨q, hq, -⟩ := instr_sequence i
  have hq' : modifySequence f.mode = some q := hm ▸ (sequenceOf_instr hk).symm.trans hq
  refine ⟨encode_of_formOf hf, ?_⟩
  rw [Completes, exec_modify s ha hf]
  exact modifyForm_completes modify i.opcode i.entry s hq'

theorem incModify_eq (m : Byte) (c : Bool) : incModify m c = (BitVec.ofNat 8 (m.toNat + 1), none) := by
  simp [incModify, BitVec.ofNat_add]

theorem decModify_eq (m : Byte) (c : Bool) : decModify m c = (BitVec.ofInt 8 ((m.toNat : Int) - 1), none) := by
  simp [decModify, Int.sub_eq_add_neg, BitVec.ofInt_add, BitVec.ofInt_neg, BitVec.sub_eq_add_neg]

/-- An instruction of mnemonic INC writes the byte plus one by the form it has (R231). -/
theorem modifiesAs_inc {i : Instr} {f : Form} (s : State) (hi : i.mnemonic = .inc) (hm : i.mode = f.mode)
    (ho : i.operands = f.bytes) :
    ModifiesAs i i.opcode f s fun m => (BitVec.ofNat 8 (m.toNat + 1), none) := by
  simpa only [incModify_eq] using
    modifiesAs_of_form (modify := incModify) s (hi ▸ rfl) (hi ▸ rfl) hm ho

/-- An instruction of mnemonic DEC writes the byte minus one by the form it has (R232). -/
theorem modifiesAs_dec {i : Instr} {f : Form} (s : State) (hi : i.mnemonic = .dec) (hm : i.mode = f.mode)
    (ho : i.operands = f.bytes) :
    ModifiesAs i i.opcode f s fun m => (BitVec.ofInt 8 ((m.toNat : Int) - 1), none) := by
  simpa only [decModify_eq] using
    modifiesAs_of_form (modify := decModify) s (hi ▸ rfl) (hi ▸ rfl) hm ho

/-- Settles O19: the first four instructions have the mnemonic INC and the last four DEC, each with its form's mode and
operand bytes, and neither function has a carry-out. -/
theorem incAndDecModifyMemory : Obligations.IncAndDecModifyMemory := by
  intro s up down
  and_intros
  iterate 4 exact fun _ => modifiesAs_inc s rfl rfl rfl
  iterate 4 exact fun _ => modifiesAs_dec s rfl rfl rfl

end Sys2Proof.Machine
end

section
/-! The M kind on A, whole (R142), and the shifts and rotates (R240 to R244): a mnemonic's function does the same to A
and to a byte of memory. -/

namespace Sys2Proof.Machine

open Sys2Proof

/-- The mnemonic's function is `sh`, which always has a carry-out, when the carry-in is `c` (R240). -/
def Shifts (mn : Mnemonic) (c : Bool) (sh : Byte → Byte × Bool) : Prop :=
  kindOf mn = .modify ∧ ∃ modify, modifyOf mn = some modify ∧ ∀ v, modify v c = ((sh v).1, some (sh v).2)

section Mnemonic

variable {i : Instr} {mn : Mnemonic} {s : State} {sh : Byte → Byte × Bool}

/-- In accumulator mode a shift replaces A, with the carry of the start state as carry-in (R142). -/
theorem Shifts.accumulatorAs (h : Shifts mn s.regs.c sh) (hi : i.mnemonic = mn) (hm : i.mode = .acc)
    (ho : i.operands = []) : AccumulatorAs i i.opcode s sh := by
  obtain ⟨-, modify, ha, hsh⟩ := h
  have hc := modifyAcc_completes i.opcode i.entry s modify
  rw [hsh] at hc
  refine ⟨congrArg (i.opcode :: ·) ho, ?_⟩
  rw [Completes, exec_accumulator s (hi ▸ ha) hm]
  exact hc

/-- In a memory form a shift modifies the byte, with the carry of the start state as carry-in. -/
theorem Shifts.modifiesAs {f : Form} (h : Shifts mn s.regs.c sh) (hi : i.mnemonic = mn) (hm : i.mode = f.mode)
    (ho : i.operands = f.bytes) : ModifiesAs i i.opcode f s fun v => ((sh v).1, some (sh v).2) := by
  obtain ⟨hk, modify, ha, hsh⟩ := h
  rw [← funext hsh]
  exact modifiesAs_of_form s (hi ▸ hk) (hi ▸ ha) hm ho

end Mnemonic

/-! The four functions over the natural numbers. -/

theorem toNat_flagByte (c : Bool) : (flagByte c).toNat = c.toNat := by cases c <;> rfl

theorem ofNat_and_0xFF (n : Nat) : BitVec.ofNat 8 (n &&& 0xFF) = BitVec.ofNat 8 n := by
  rw [BitVec.ofNat_and]
  exact BitVec.and_allOnes

theorem ofNat_toNat_shiftLeft (v : Byte) (k : Nat) : BitVec.ofNat 8 (v.toNat <<< k) = v <<< k := rfl

theorem ofNat_toNat_shiftRight (v : Byte) (k : Nat) : BitVec.ofNat 8 (v.toNat >>> k) = v >>> k := by
  rw [← BitVec.toNat_ushiftRight, BitVec.ofNat_toNat, BitVec.setWidth_eq]

theorem aslModify_eq (v : Byte) (c : Bool) :
    aslModify v c = (BitVec.ofNat 8 (v.toNat <<< 1 &&& 0xFF), some (v.getLsbD 7)) := by
  rw [ofNat_and_0xFF, ofNat_toNat_shiftLeft]
  rfl

theorem lsrModify_eq (v : Byte) (c : Bool) :
    lsrModify v c = (BitVec.ofNat 8 (v.toNat >>> 1), some (v.getLsbD 0)) := by
  rw [ofNat_toNat_shiftRight]
  rfl

/-- The carry-in enters at bit 0 (R243). -/
theorem rolModify_eq (v : Byte) (c : Bool) :
    rolModify v c = (BitVec.ofNat 8 ((v.toNat <<< 1 ||| c.toNat) &&& 0xFF), some (v.getLsbD 7)) := by
  rw [ofNat_and_0xFF, BitVec.ofNat_or, ofNat_toNat_shiftLeft, ← toNat_flagByte, BitVec.ofNat_toNat,
    BitVec.setWidth_eq]
  rfl

/-- The carry-in enters at bit 7 (R244). -/
theorem rorModify_eq (v : Byte) (c : Bool) :
    rorModify v c = (BitVec.ofNat 8 (c.toNat <<< 7 ||| v.toNat >>> 1), some (v.getLsbD 0)) := by
  rw [BitVec.ofNat_or, ← toNat_flagByte, ofNat_toNat_shiftLeft, ofNat_toNat_shiftRight]
  rfl

/-- Settles O21: the first five instructions have the mnemonic ASL and the last five LSR, each with its form's mode and
operand bytes, and neither function reads the carry-in. -/
theorem aslAndLsrShiftByOneBit : Obligations.AslAndLsrShiftByOneBit := by
  intro s asl aslMem lsr lsrMem
  have hasl : Shifts .asl s.regs.c asl := ⟨rfl, aslModify, rfl, (aslModify_eq · _)⟩
  have hlsr : Shifts .lsr s.regs.c lsr := ⟨rfl, lsrModify, rfl, (lsrModify_eq · _)⟩
  refine ⟨hasl.accumulatorAs rfl rfl rfl, ?_, ?_, ?_, ?_, hlsr.accumulatorAs rfl rfl rfl, ?_, ?_, ?_, ?_⟩
  iterate 4 exact fun _ => hasl.modifiesAs rfl rfl rfl
  iterate 4 exact fun _ => hlsr.modifiesAs rfl rfl rfl

/-- Settles O22: the first five instructions have the mnemonic ROL and the last five ROR, each with its form's mode and
operand bytes, and the carry-in of both functions is C of the start state. -/
theorem rolAndRorRotateThroughCarry : Obligations.RolAndRorRotateThroughCarry := by
  intro s rol rolMem ror rorMem
  have hrol : Shifts .rol s.regs.c rol := ⟨rfl, rolModify, rfl, (rolModify_eq · _)⟩
  have hror : Shifts .ror s.regs.c ror := ⟨rfl, rorModify, rfl, (rorModify_eq · _)⟩
  refine ⟨hrol.accumulatorAs rfl rfl rfl, ?_, ?_, ?_, ?_, hror.accumulatorAs rfl rfl rfl, ?_, ?_, ?_, ?_⟩
  iterate 4 exact fun _ => hrol.modifiesAs rfl rfl rfl
  iterate 4 exact fun _ => hror.modifiesAs rfl rfl rfl

end Sys2Proof.Machine
end

section
/-! The branches and RTS (R260, R271): a branch is its mnemonic's condition run through the sequence of R160, and RTS is
the sequence of R164 after its decode clock. -/

namespace Sys2Proof.Machine

open Sys2Proof

/-- A branch goes by the condition of its mnemonic at the flags of the start state (R260); T1 and T2 move PC alone. -/
theorem branchesAs_of_cond {i : Instr} {cond : RegisterFile → Bool} {offset : Byte} {taken : Bool} (s : State)
    (hf : condOf i.mnemonic = some cond) (ho : i.operands = [offset]) (ht : cond s.regs = taken) :
    BranchesAs i i.opcode offset s taken := by
  obtain ⟨offset', ho', hx⟩ := exec_branch s hf
  obtain rfl : offset' = offset := List.singleton_inj.mp (ho'.symm.trans ho)
  have hcond : cond (pcAfter 2 s) = taken := (condOf_pc hf s.regs _).trans ht
  refine ⟨congrArg (i.opcode :: ·) ho, ?_⟩
  rw [Completes, hx, ← sext16_eq, ← hcond]
  exact branch_completes i.opcode i.entry s cond offset'

/-- Settles O25: each of the eight instructions has one offset byte, and the condition of its mnemonic compares one flag
with a constant. -/
theorem branchesTestOneFlag : Obligations.BranchesTestOneFlag := by
  intro s offset
  refine ⟨?bpl, ?bmi, ?bvc, ?bvs, ?bcc, ?bcs, ?bne, ?beq⟩
  case bpl | bvc | bcc | bne => exact branchesAs_of_cond s rfl rfl (beq_false _)
  case bmi | bvs | bcs | beq => exact branchesAs_of_cond s rfl rfl (beq_true _)

theorem exec_rts (s : State) : exec .rts s = returnForm (decodeClock 0x60#8 ⟨.rts, .imp, 6⟩ s) := rfl

/-- Settles O28: RTS has its encoding by definition and its effect by the law of its form, R164; the obligation writes
`w16` out as appends. -/
theorem rtsPullsPcAndAddsOne : Obligations.RtsPullsPcAndAddsOne := by
  intro s pc sp a1 a2 target
  refine ⟨rfl, ?_⟩
  rw [Completes, exec_rts]
  exact returnForm_completes 0x60#8 ⟨.rts, .imp, 6⟩ s

end Sys2Proof.Machine
end

section
/-! Every row in every state: it keeps the instruction in flight or ends it, leaves the NMI latch, and faults only
where it counts no clock (R14, R134, R306). -/

namespace Sys2Proof.Machine

open Sys2Proof

/-- What any row does from any state: the phase stays or becomes Idle, the NMI latch is left, and a clock that is
counted raises no fault. -/
def Moves (s s' : State) : Prop :=
  (s'.seq.phase = s.seq.phase ∨ s'.seq.phase = .idle) ∧ s'.latches.nmiPending = s.latches.nmiPending ∧
    (s'.halted = s.halted ∨ s'.seq.t = s.seq.t)

/-- A row that counts its clock raises no fault. -/
theorem Moves.halted_eq {s s' : State} {phase : Phase} {crossed : Bool} (h : Moves s s')
    (hc : Counts s s' phase crossed) : s'.halted = s.halted := by
  obtain ⟨-, -, hh⟩ := h
  obtain ⟨ht, -⟩ := hc
  exact hh.resolve_right (by omega)

section Rows

variable {s s' : State}

theorem raise_moves (f : Fault) : Moves s (raise f s) := by simp [Moves]

theorem withEa_moves {row : Addr → State} (hr : ∀ a, Moves s (row a)) : Moves s (withEa s row) := by
  unfold withEa
  split
  · exact hr _
  · exact raise_moves _

theorem withOperand_moves {row : Byte → State} (hr : ∀ v, Moves s (row v)) : Moves s (withOperand s row) := by
  unfold withOperand
  split
  · exact hr _
  · exact raise_moves _

theorem withTemp_moves {row : Byte → State} (hr : ∀ v, Moves s (row v)) : Moves s (withTemp s row) := by
  unfold withTemp
  split
  · exact hr _
  · exact raise_moves _

theorem withFunction_moves {α : Type} {f : Option α} {row : α → State} (hr : ∀ g, Moves s (row g)) :
    Moves s (withFunction f s row) := by
  unfold withFunction
  split
  · exact hr _
  · exact raise_moves _

theorem endIf_moves {c : Prop} [Decidable c] (h : Moves s s') : Moves s (if c then s' else endInstr s') := by
  split
  · exact h
  · exact ⟨.inr rfl, h.2⟩

/-! ### Rows that read no latch -/

@[simp] theorem rowFetchZp_moves : Moves s (rowFetchZp s) := by simp [Moves, rowFetchZp]

@[simp] theorem rowFetchOperand_moves : Moves s (rowFetchOperand s) := by simp [Moves, rowFetchOperand]

@[simp] theorem rowFetchTemp_moves : Moves s (rowFetchTemp s) := by simp [Moves, rowFetchTemp]

@[simp] theorem rowDummyPc_moves : Moves s (rowDummyPc s) := by simp [Moves, rowDummyPc]

@[simp] theorem brkSkip_moves : Moves s (brkSkip s) := by simp [Moves, brkSkip]

@[simp] theorem pullDummy_moves : Moves s (pullDummy s) := by simp [Moves, pullDummy]

@[simp] theorem rtsLow_moves : Moves s (rtsLow s) := by simp [Moves, rtsLow]

@[simp] theorem rtsFinal_moves : Moves s (rtsFinal s) := by simp [Moves, rtsFinal]

@[simp] theorem rtiStatus_moves : Moves s (rtiStatus s) := by simp [Moves, rtiStatus]

@[simp] theorem jsrBack_moves : Moves s (jsrBack s) := by simp [Moves, jsrBack]

@[simp] theorem push_moves (v : Byte) : Moves s (push v s) := by simp [Moves]

@[simp] theorem vectorLow_moves (vec : Addr) : Moves s (vectorLow vec s) := by simp [Moves, vectorLow]

/-! ### Rows that read a latch or call a function -/

@[simp] theorem rowExec_moves : Moves s (rowExec s) := withFunction_moves fun f => by simp [Moves]

@[simp] theorem rowModifyAcc_moves : Moves s (rowModifyAcc s) := withFunction_moves fun f => by simp [Moves]

@[simp] theorem rowReadImm_moves : Moves s (rowReadImm s) := withFunction_moves fun f => by simp [Moves]

@[simp] theorem rowStore_moves : Moves s (rowStore s) := withFunction_moves fun f => by simp [Moves]

@[simp] theorem rowPullFinal_moves : Moves s (rowPullFinal s) := withFunction_moves fun f => by simp [Moves]

@[simp] theorem rowRead_moves : Moves s (rowRead s) :=
  withEa_moves fun a => withFunction_moves fun f => by simp [Moves, readFinal]

@[simp] theorem rowReadLocal_moves : Moves s (rowReadLocal s) :=
  withEa_moves fun a => withFunction_moves fun f => by simp [Moves, readFinalLocal]

@[simp] theorem rowWrite_moves : Moves s (rowWrite s) :=
  withEa_moves fun a => withFunction_moves fun f => by simp [Moves, writeFinal]

@[simp] theorem rowRmwRead_moves : Moves s (rowRmwRead s) := withEa_moves fun a => by simp [Moves, rmwRead]

@[simp] theorem rowRmwApply_moves : Moves s (rowRmwApply s) :=
  withEa_moves fun a => withOperand_moves fun v => withTemp_moves fun w => withFunction_moves fun f => by
    simp [Moves, rmwApply]

@[simp] theorem rowRmwWrite_moves : Moves s (rowRmwWrite s) :=
  withEa_moves fun a => withOperand_moves fun v => withTemp_moves fun w => withFunction_moves fun f => by
    simp [Moves, rmwWrite]

@[simp] theorem rowFetchHigh_moves : Moves s (rowFetchHigh s) := withEa_moves fun a => by simp [Moves]

@[simp] theorem rowFetchHighChecked_moves : Moves s (rowFetchHighChecked s) := withEa_moves fun a => by simp [Moves]

@[simp] theorem rowIndexZp_moves : Moves s (rowIndexZp s) := withEa_moves fun a => by simp [Moves]

@[simp] theorem rowFixup_moves : Moves s (rowFixup s) := withEa_moves fun a => by simp [Moves, fixup]

@[simp] theorem rowIzxIndex_moves : Moves s (rowIzxIndex s) := withOperand_moves fun p => by simp [Moves]

@[simp] theorem rowPointerLow_moves : Moves s (rowPointerLow s) := withOperand_moves fun p => by simp [Moves]

@[simp] theorem rowPointerHigh_moves : Moves s (rowPointerHigh s) :=
  withOperand_moves fun p => withEa_moves fun a => by simp [Moves]

@[simp] theorem rowPointerHighChecked_moves : Moves s (rowPointerHighChecked s) :=
  withOperand_moves fun p => withEa_moves fun a => by simp [Moves]

@[simp] theorem rowJumpFinal_moves : Moves s (rowJumpFinal s) := withTemp_moves fun l => by simp [Moves, jumpFinal]

@[simp] theorem rowJumpLow_moves : Moves s (rowJumpLow s) := withEa_moves fun ptr => by simp [Moves, jumpIndLow]

@[simp] theorem rowJumpHigh_moves : Moves s (rowJumpHigh s) :=
  withEa_moves fun ptr => withTemp_moves fun l => by simp [Moves, jumpIndHigh]

@[simp] theorem rowJsrFinal_moves : Moves s (rowJsrFinal s) :=
  withOperand_moves fun h => withTemp_moves fun l => by simp [Moves, jsrFinal]

@[simp] theorem rowRtsHigh_moves : Moves s (rowRtsHigh s) := withTemp_moves fun l => by simp [Moves, rtsHigh]

@[simp] theorem rowVectorHigh_moves (vec : Addr) : Moves s (rowVectorHigh vec s) :=
  withTemp_moves fun l => by simp [Moves, vectorHigh]

@[simp] theorem rowRtiFinal_moves : Moves s (rowRtiFinal s) :=
  withOperand_moves fun p => withTemp_moves fun l => by simp [Moves, rtiFinal]

/-! ### Rows that depend on the page cross or on a condition -/

/-- The indexed address is latched before the read, so the read is a row of the state with that latch. -/
@[simp] theorem rowFixupOrRead_moves {row : State → State} (hr : ∀ s, Moves s (row s)) :
    Moves s (rowFixupOrRead row s) := by
  unfold rowFixupOrRead
  split
  · exact rowFixup_moves
  · exact withEa_moves fun a => hr (setEa _ s)

@[simp] theorem rowAfterFixup_moves {row : State → State} (hr : ∀ s, Moves s (row s)) :
    Moves s (rowAfterFixup row s) := by
  unfold rowAfterFixup
  split
  · exact hr s
  · exact raise_moves _

@[simp] theorem rowBranchFetch_moves : Moves s (rowBranchFetch s) :=
  withFunction_moves fun cond => endIf_moves (by simp [Moves, branchFetch])

@[simp] theorem rowBranchTake_moves : Moves s (rowBranchTake s) :=
  withOperand_moves fun offset => endIf_moves (by simp [Moves, branchTake])

@[simp] theorem rowBranchFix_moves : Moves s (rowBranchFix s) := by
  unfold rowBranchFix
  split
  · exact withTemp_moves fun page => by simp [Moves, branchFix]
  · exact raise_moves _

end Rows

/-! ### The tables -/

theorem rowsOf_moves (q : Sequence) : ∀ row ∈ rowsOf q, ∀ s, Moves s (row s) := by
  cases q <;> simp [rowsOf, rmwRows, entryRows, rowPushPcHigh, rowPushPcLow, rowPushStatus, jsrPushHigh]

/-- Past its rows, and before T2, a table has no row (log 9). -/
theorem rowOf_noSuchRow {q : Sequence} {s : State} (ht : s.seq.t = 0 ∨ ∃ k, s.seq.t = k + ((rowsOf q).length + 1)) :
    rowOf q s = raise .noSuchRow s := by
  rcases ht with ht | ⟨k, ht⟩ <;> cases q <;>
    simp only [rowOf, rowImplied, rowAccumulator, rowImmediate, rowZpR, rowZpW, rowZpM, rowZpIndexedR, rowZpIndexedW,
      rowZpIndexedM, rowAbsR, rowAbsW, rowAbsM, rowAbsIndexedR, rowAbsIndexedW, rowAbsIndexedM, rowIzxR, rowIzxW,
      rowIzyR, rowIzyW, rowBranch, rowJmpAbs, rowJmpInd, rowJsr, rowRts, rowPush, rowPull, rowBrk, rowRti,
      rowInterruptShape, ht] <;> rfl

theorem rowOf_moves (q : Sequence) (s : State) : Moves s (rowOf q s) := by
  cases ht : s.seq.t with
  | zero => exact rowOf_noSuchRow (.inl ht) ▸ raise_moves _
  | succ n =>
    by_cases hn : n < (rowsOf q).length
    · rw [rowOf_eq (List.getElem?_eq_getElem hn) ht]
      exact rowsOf_moves q _ (List.getElem_mem hn) s
    · have hpast : s.seq.t = n - (rowsOf q).length + ((rowsOf q).length + 1) := by omega
      exact rowOf_noSuchRow (.inr ⟨_, hpast⟩) ▸ raise_moves _

theorem rowInterruptShape_moves (vec : Addr) (brk : Bool) (s : State) : Moves s (rowInterruptShape vec brk s) := by
  unfold rowInterruptShape
  split
  · exact push_moves _
  · exact push_moves _
  · exact push_moves _
  · exact vectorLow_moves vec
  · exact rowVectorHigh_moves vec
  · exact raise_moves _

theorem rowInterrupt_moves (vec : Addr) (s : State) : Moves s (rowInterrupt vec s) := by
  unfold rowInterrupt
  split
  · exact rowDummyPc_moves
  · exact rowDummyPc_moves
  · exact rowInterruptShape_moves vec false s

theorem microStep_moves (s : State) : Moves s (microStep s) := by
  unfold microStep
  split
  · split
    · exact rowOf_moves _ s
    · exact raise_moves _
  · exact rowInterrupt_moves _ s
  · exact rowInterrupt_moves _ s
  · exact raise_moves _

/-- A clock of a sequence in flight, from any state (R130, R135); the poll before it touches nothing `Moves` reads. -/
theorem clock_moves {s : State} (hh : s.halted = none) (hs : s.stallCycles = 0) (hp : s.seq.phase ≠ .idle) :
    Moves s (clock s) := by
  rw [clock_inFlight hh hs hp]
  exact microStep_moves (poll s)

end Sys2Proof.Machine
end

section
/-! The clocks and steps that fault: under the invariant a clock in flight counts, an interrupt begins, a known opcode
is decoded, and an unknown opcode halts the core (R104, R133, R310, R313). -/

namespace Sys2Proof.Machine

open Sys2Proof

/-! ### In flight -/

/-- An instruction that stands at a row of its table counts its next clock (R134). -/
theorem Standing.clock_counts {q : Sequence} {n : Nat} {need : Need} {s : State} (h : Standing q n need s)
    (hh : s.halted = none) (hs : s.stallCycles = 0) : ∃ phase c, Counts s (clock s) phase c := by
  by_cases hq : q.canExtend = false
  · obtain ⟨row, hr, ⟨-, hends⟩ | ⟨-, hstays⟩⟩ := (countsDown_rowsOf q hq).row h.row
    · exact h.clock_eq hh hs hr ▸ ⟨_, hends (poll s) h.function h.meets⟩
    · exact h.clock_eq hh hs hr ▸ ⟨_, hstays (poll s) h.function h.meets⟩
  by_cases hb : q = .branch
  · subst hb
    rcases h.branch_clock hh hs with ⟨-, -, hc⟩ | ⟨-, hc⟩ | ⟨hc, -⟩ <;> exact ⟨_, _, hc⟩
  · have hi : q = .absIndexedR ∨ q = .izyR := by cases q <;> simp_all [Sequence.canExtend]
    rcases h.indexed_clock hh hs hi with ⟨hc, -⟩ | ⟨c, hc, -⟩ <;> exact ⟨_, _, hc⟩

/-- An interrupt sequence in flight counts its next clock (R302). -/
theorem interrupt_clock_counts {s : State} (hh : s.halted = none) (hs : s.stallCycles = 0)
    (hp : s.seq.phase = .nmiSeq ∨ s.seq.phase = .irqSeq) (h : s.seq.interruptReady = true) :
    ∃ phase c, Counts s (clock s) phase c := by
  obtain ⟨-, n, need, ht, hn, hm⟩ := interrupt_row h
  obtain ⟨vec, hclock⟩ := clock_interrupt hh hs hp
  obtain ⟨row, hr, hrow⟩ := (countsDown_interrupt vec).row hn
  rw [hclock, rowInterrupt_eq hr (show (poll s).seq.t = n + 1 from ht)]
  rcases hrow with ⟨-, hends⟩ | ⟨-, hstays⟩
  · exact ⟨_, hends (poll s) rfl hm⟩
  · exact ⟨_, hstays (poll s) rfl hm⟩

theorem clock_counts {s : State} (hw : s.seq.wf = true) (hh : s.halted = none) (hs : s.stallCycles = 0)
    (hp : s.seq.phase ≠ .idle) : ∃ phase c, Counts s (clock s) phase c := by
  unfold SeqState.wf at hw
  cases hphase : s.seq.phase <;> rw [hphase] at hw
  case idle => exact absurd hphase hp
  case exec =>
    obtain ⟨q, n, need, h⟩ := standing_of_execReady hphase hw
    exact h.clock_counts hh hs
  case nmiSeq => exact interrupt_clock_counts hh hs (.inl hphase) hw
  case irqSeq => exact interrupt_clock_counts hh hs (.inr hphase) hw

/-- A clock in flight raises no fault: its row counts the clock, and a row that faults does not (R172). -/
theorem clock_running_inFlight {s : State} (hw : s.seq.wf = true) (hh : s.halted = none) (hs : s.stallCycles = 0)
    (hp : s.seq.phase ≠ .idle) : (clock s).halted = none := by
  obtain ⟨phase, c, hc⟩ := clock_counts hw hh hs hp
  exact ((clock_moves hh hs hp).halted_eq hc).trans hh

/-! ### Idle clocks -/

/-- T1 of an interrupt sequence is a dummy read of PC (R302). -/
theorem microStep_beginInterrupt {phase : Phase} (hp : phase = .nmiSeq ∨ phase = .irqSeq) (s : State) :
    microStep (beginInterrupt phase s) = dummyRead s.regs.pc (beginInterrupt phase s) := by
  rcases hp with rfl | rfl <;> rfl

/-- Whether the table holds a mnemonic and mode does not depend on the operand bytes (R100). -/
theorem assemble_isSome (mn : Mnemonic) (mode : Mode) (b1 b2 : Byte) :
    (assemble mn mode b1 b2).isSome = (assemble mn mode 0#8 0#8).isSome := by
  cases mn <;> cases mode <;> rfl

/-- The bytes at PC decode when the first has a table entry: the other two cannot be missing (R91, R104). -/
theorem decode_of_lookup {s : State} {e : Entry} (he : lookup (instrByte 0 s) = some e) :
    ∃ i rest, decode (fetchedBytes s) = .ok (i, rest) ∧ fetchInstr s = .ok i := by
  have henc := lookup_encodes (instrByte 0 s)
  simp only [he, Option.all_some, beq_iff_eq, Option.map_eq_some_iff] at henc
  obtain ⟨j, hj, -⟩ := henc
  obtain ⟨i, hi⟩ := Option.isSome_iff_exists.mp
    ((assemble_isSome e.mnemonic e.mode (instrByte 1 s) (instrByte 2 s)).trans (by rw [hj]; rfl))
  have hlen : ¬ 3 < e.mode.length := by cases e.mode <;> decide
  exact ⟨i, [instrByte 1 s, instrByte 2 s].drop (e.mode.length - 1),
    by simp [fetchedBytes, decode, decodeBytes, he, hi, hlen], by simp [fetchInstr, decodeBytes, he, hi]⟩

/-- A Ready state with a known opcode runs a whole instruction. -/
theorem step_of_lookup {s : State} {e : Entry} (hr : Ready s) (he : lookup (instrByte 0 s) = some e) :
    ∃ t, step s = .next t := by
  obtain ⟨i, rest, hd, hf⟩ := decode_of_lookup he
  obtain ⟨-, hx⟩ := execIsItsClocks s i rest hr hd
  exact ⟨_, by simpa only [step_fetch hr, hf] using hx⟩

theorem step_of_unknown {s : State} (hr : Ready s) (he : lookup (instrByte 0 s) = none) :
    step s = .fault (.unknownOpcode (instrByte 0 s) s.regs.pc) := by
  rw [step_fetch hr, fetchInstr, decodeBytes, he]

theorem clock_of_unknown {s : State} (hr : Ready s) (he : lookup (instrByte 0 s) = none) :
    (clock s).halted = some (.unknownOpcode (instrByte 0 s) s.regs.pc) := by
  obtain ⟨hh, hs, hp, hn, hi⟩ := hr
  have ha : answer s.regs.pc (poll s) = instrByte 0 s := by simp [answer, instrByte]
  rw [clock_decode hh hs hp hn hi]
  simp only [decodeRow, poll_regs, ha, he]

/-! ### Whether the core runs on -/

/-- Neither the step nor the clock from `s` stops the core. -/
def RunsOn (s : State) : Prop := (∃ t, step s = .next t) ∧ (clock s).halted = none

theorem runsOn_stalled {s : State} (hh : s.halted = none) (hs : s.stallCycles ≠ 0) : RunsOn s :=
  ⟨⟨_, step_stalled hh hs⟩, clock_stalled hh hs ▸ hh⟩

theorem runsOn_inFlight {s : State} (hw : s.seq.wf = true) (hh : s.halted = none) (hs : s.stallCycles = 0)
    (hp : s.seq.phase ≠ .idle) : RunsOn s := by
  have hrun := clock_running_inFlight hw hh hs hp
  exact ⟨⟨_, (step_inFlight hh hs hp).trans (outcomeOf_running hrun)⟩, hrun⟩

theorem runsOn_nmi {s : State} (hh : s.halted = none) (hs : s.stallCycles = 0) (hp : s.seq.phase = .idle)
    (hn : s.latches.nmiPending = true) : RunsOn s := by
  refine ⟨⟨_, step_nmi hh hs hp hn⟩, ?_⟩
  rw [clock_nmi hh hs hp hn, microStep_beginInterrupt (.inl rfl)]
  simpa using hh

theorem runsOn_irq {s : State} (hh : s.halted = none) (hs : s.stallCycles = 0) (hp : s.seq.phase = .idle)
    (hn : s.latches.nmiPending = false) (hi : (s.irqIn && !s.regs.i) = true) : RunsOn s := by
  refine ⟨⟨_, step_irq hh hs hp hn hi⟩, ?_⟩
  rw [clock_irq hh hs hp hn hi, microStep_beginInterrupt (.inr rfl)]
  simpa using hh

theorem runsOn_decode {s : State} {e : Entry} (hr : Ready s) (he : lookup (instrByte 0 s) = some e) : RunsOn s := by
  have hstep := step_of_lookup hr he
  have hclock := clock_ready hr rfl he
  obtain ⟨hh, -⟩ := hr
  exact ⟨hstep, hclock ▸ hh⟩

/-- Under the invariant a running core runs on unless it is about to fetch an unknown opcode (R313). -/
theorem runsOn_or_unknown {s : State} (hw : s.seq.wf = true) (hh : s.halted = none) :
    RunsOn s ∨ Ready s ∧ lookup (instrByte 0 s) = none := by
  by_cases hs : s.stallCycles = 0
  case neg => exact .inl (runsOn_stalled hh hs)
  by_cases hp : s.seq.phase = .idle
  case neg => exact .inl (runsOn_inFlight hw hh hs hp)
  cases hn : s.latches.nmiPending
  case true => exact .inl (runsOn_nmi hh hs hp hn)
  cases hi : s.irqIn && !s.regs.i
  case true => exact .inl (runsOn_irq hh hs hp hn hi)
  have hr : Ready s := ⟨hh, hs, hp, hn, hi⟩
  cases he : lookup (instrByte 0 s) with
  | some e => exact .inl (runsOn_decode hr he)
  | none => exact .inr ⟨hr, rfl⟩

/-! ### The obligations -/

/-- Settles O45: the core runs on, or it stops with the unknown opcode in the step and in the clock alike. -/
theorem noOtherExceptionExists : Obligations.NoOtherExceptionExists := by
  intro s f hw hh
  have hseq : s.seq.wf = true := by
    simp only [State.wf, Bool.and_eq_true] at hw
    obtain ⟨⟨⟨-, hseq⟩, -⟩, -⟩ := hw
    exact hseq
  rcases runsOn_or_unknown hseq hh with ⟨⟨t, hstep⟩, hclock⟩ | ⟨hr, he⟩
  · simp [hstep, hclock]
  · have hidle : s.seq.phase = .idle := by
      obtain ⟨-, -, hp, -⟩ := hr
      exact hp
    simp [step_of_unknown hr he, clock_of_unknown hr he, hidle, he, eq_comm]

/-- Settles O33: the cases of `clock` in their order; from any other phase the clock is a row of a table. -/
theorem arbitrationOrder : Obligations.ArbitrationOrder := by
  intro s
  refine ⟨fun f h => clock_halted h, fun hh hs => ?stalled, fun hh hs hp => ⟨fun hn => ?nmi, fun hn hi hI => ?irq,
    fun hn hm => ?instruction⟩, fun hh hs hp => ?inFlight⟩
  case stalled =>
    rw [clock_stalled hh hs]
    exact ⟨rfl, rfl, rfl, Nat.sub_add_cancel (Nat.one_le_iff_ne_zero.mpr hs)⟩
  case nmi =>
    rw [clock_nmi hh hs hp hn, microStep_beginInterrupt (.inl rfl)]
    simp
  case irq =>
    rw [clock_irq hh hs hp hn (by simp [hi, hI]), microStep_beginInterrupt (.inr rfl)]
    simp [hi]
  case instruction =>
    have hr : Ready s := ⟨hh, hs, hp, hn, by rcases hm with h | h <;> simp [h]⟩
    split
    · next e he => exact clock_ready hr rfl he ▸ ⟨rfl, rfl, rfl⟩
    · next he => exact clock_of_unknown hr he
  case inFlight =>
    obtain ⟨hphase, hnmi, -⟩ := clock_moves hh hs hp
    exact ⟨hphase, hnmi⟩

/-- Settles O35: the step is `takeIrq`, whose whole effect is the law of the interrupt sequence; the entry sets I, so
the asserted line is masked at the next Idle clock. -/
theorem irqIsTakenWhenUnmasked : Obligations.IrqIsTakenWhenUnmasked := by
  intro s hh hs hp hn hi hI fl status
  have hstep : step s = .next (takeIrq s) := step_irq hh hs hp hn (by simp [hi, hI])
  have hstatus : packP false s.regs = status := by simp [packP_eq, status, fl]
  have htaken := takeIrq_completes s
  rw [hn, hstatus, ← hstep] at htaken
  refine ⟨htaken, fun t ht => ?_⟩
  obtain ⟨t', hnext, hregs, -, -, -, -, hlatches, hirq, -⟩ := htaken
  obtain rfl : t = t' := Host.Outcome.next.inj (ht.symm.trans hnext)
  simp [arbitrate, hlatches, hirq, hregs, entryRegs, hi]

end Sys2Proof.Machine
end

section
/-! The decoder and the encoder undo each other (R90 to R107), and the bytes without an entry are refused (R104). -/

namespace Sys2Proof.Machine

open Sys2Proof

/-- The bytes that `encode` gives decode to the instruction they encode, whatever stands after them. -/
theorem decodeBytes_opcode (i : Instr) (rest : List Byte) :
    decodeBytes i.opcode ((i.operands ++ rest)[0]?.getD 0) ((i.operands ++ rest)[1]?.getD 0) = .ok i := by
  simp only [decodeBytes, lookup_opcode, Instr.entry, assemble_operands]

/-- Settles O1: the opcode has the instruction's own table entry, whose length is that of the encoding. -/
theorem decodeOfEncodeIsTheInstruction : Obligations.DecodeOfEncodeIsTheInstruction := by
  intro i rest
  have hlen : i.operands.length + 1 = i.entry.mode.length := operands_length i
  have hdrop : (i.operands ++ rest).drop (i.entry.mode.length - 1) = rest := by simp [← hlen]
  have henough : ¬(i.operands ++ rest).length + 1 < i.entry.mode.length := by simp [← hlen]
  refine ⟨wf_instr i, ?_⟩
  simp only [encode, List.cons_append, decode, lookup_opcode, if_neg henough, decodeBytes_opcode, hdrop]

/-- What a decoded list of bytes is: an opcode byte with an entry, then as many bytes as the entry's mode asks for, of
which the instruction is assembled. -/
theorem decode_eq_ok {bs : List Byte} {i : Instr} {rest : List Byte} (h : decode bs = .ok (i, rest)) :
    ∃ op tail e, bs = op :: tail ∧ lookup op = some e ∧ e.mode.length ≤ tail.length + 1 ∧
      assemble e.mnemonic e.mode (tail[0]?.getD 0) (tail[1]?.getD 0) = some i ∧
      rest = tail.drop (e.mode.length - 1) := by
  cases bs with
  | nil => cases h
  | cons op tail =>
    simp only [decode, decodeBytes] at h
    split at h
    · cases h
    next e he =>
    split at h
    · cases h
    next hlen =>
    simp only at h
    split at h
    · cases h
    next j hj =>
    cases h
    split at hj
    · cases hj
    next ha =>
    cases hj
    exact ⟨op, tail, e, rfl, he, Nat.le_of_not_lt hlen, ha, rfl⟩

/-- An instruction assembled from the entry of an opcode byte has that byte as its opcode. -/
theorem opcode_of_assemble {op : Byte} {e : Entry} {b1 b2 : Byte} {i : Instr} (he : lookup op = some e)
    (ha : assemble e.mnemonic e.mode b1 b2 = some i) : i.opcode = op := by
  have henc := lookup_encodes op
  simpa [he, (assemble_spec ha).2] using henc

/-- The operand bytes of a mode, of which there are at most two, stand at the front of a list that has as many. -/
theorem take_operandBytes {mode : Mode} {tail : List Byte} (h : mode.length ≤ tail.length + 1) :
    [tail[0]?.getD 0, tail[1]?.getD 0].take (mode.length - 1) = tail.take (mode.length - 1) := by
  match tail, h with
  | [], h => cases mode <;> simp [Mode.length] at h ⊢
  | [b], h => cases mode <;> simp [Mode.length] at h ⊢
  | b1 :: b2 :: tail, _ => cases mode <;> simp [Mode.length]

/-- Settles O2: the instruction was assembled from the entry of its opcode byte and from the bytes after it, as many
as its mode has. -/
theorem encodeOfDecodeIsTheBytes : Obligations.EncodeOfDecodeIsTheBytes := by
  intro bs i rest h
  obtain ⟨op, tail, e, rfl, he, hlen, ha, rfl⟩ := decode_eq_ok h
  refine ⟨?_, operands_length i⟩
  rw [encode, opcode_of_assemble he ha, (assemble_spec ha).1, take_operandBytes hlen, List.cons_append,
    List.take_append_drop]

/-- A known opcode and two more bytes begin an instruction: no mode has more than two operand bytes. -/
theorem decode_of_entry {op : Byte} {e : Entry} (he : lookup op = some e) (b1 b2 : Byte) (rest : List Byte) :
    ∃ i rest', decode (op :: b1 :: b2 :: rest) = .ok (i, rest') ∧ i.opcode = op := by
  have henc := lookup_encodes op
  simp only [he, Option.all_some, beq_iff_eq, Option.map_eq_some_iff] at henc
  obtain ⟨j, hj, -⟩ := henc
  obtain ⟨i, hi⟩ := Option.isSome_iff_exists.mp ((assemble_isSome e.mnemonic e.mode b1 b2).trans (by rw [hj]; rfl))
  have hlen : e.mode.length ≤ rest.length + 1 + 1 + 1 := by cases e.mode <;> simp [Mode.length]
  refine ⟨i, (b1 :: b2 :: rest).drop (e.mode.length - 1), ?_, opcode_of_assemble he hi⟩
  simp [decode, decodeBytes, he, Nat.not_lt.mpr hlen, hi]

/-- Settles O4: the list is that of the bytes without an entry, which the decoder refuses by name; an entry names an
instruction for all operand bytes. -/
theorem illegalBytesAreRefusedByName : Obligations.IllegalBytesAreRefusedByName := by
  unfold Obligations.IllegalBytesAreRefusedByName
  intro illegal op b1 b2 rest
  have hlist : ∀ op : Byte, op.toNat ∈ illegal ↔ lookup op = none := by decide
  rw [hlist]
  refine ⟨fun hnone => by simp [decode, hnone], fun hsome => ?_⟩
  obtain ⟨e, he⟩ := Option.ne_none_iff_exists'.mp hsome
  exact decode_of_entry he b1 b2 rest

/-- Settles O3: each list of bytes is evaluated. -/
theorem writtenWordsDecode : Obligations.WrittenWordsDecode := by
  and_intros <;> rfl

/-- The bytes that decode at PC are what `step` fetches. -/
theorem fetchInstr_of_decode {s : State} {i : Instr} {rest : List Byte} (h : decode (fetchedBytes s) = .ok (i, rest)) :
    fetchInstr s = .ok i := by
  obtain ⟨op, tail, e, hbytes, he, -, ha, -⟩ := decode_eq_ok h
  obtain ⟨rfl, rfl⟩ : instrByte 0 s = op ∧ [instrByte 1 s, instrByte 2 s] = tail := by
    simpa [fetchedBytes] using hbytes
  have hx : decodeBytes (instrByte 0 s) (instrByte 1 s) (instrByte 2 s) = .ok i := by
    simp only [decodeBytes, he]
    simp only [List.getElem?_cons_zero, List.getElem?_cons_succ, Option.getD_some] at ha
    rw [ha]
  rw [fetchInstr, hx]

/-- Settles O5: a Ready state takes no interrupt, so it runs what it fetches. -/
theorem stepRunsTheFetchedInstruction : Obligations.StepRunsTheFetchedInstruction := by
  intro s i rest hr hd
  rw [step_fetch hr, fetchInstr_of_decode hd]

end Sys2Proof.Machine
end

section
/-! The loads and stores of X and Y (R202, R203, R205, R206), the logic instructions and BIT (R224 to R227): each reads
or writes by the form it has, with the function of its mnemonic. -/

namespace Sys2Proof.Machine

open Sys2Proof

/-- A reading instruction of mnemonic `mn` in any of its forms applies the mnemonic's function. -/
theorem readsAs_of_mnemonic {i : Instr} {f : Form} {mn : Mnemonic} {ap : Apply} (s : State) (hi : i.mnemonic = mn)
    (hk : kindOf mn = .read) (ha : applyOf mn = some ap) (hm : i.mode = f.mode) (ho : i.operands = f.bytes) :
    ReadsAs i i.opcode f s ap :=
  readsAs_of_form s (hi ▸ hk) (hi ▸ ha) hm ho

/-- Settles O9: the first five instructions have the mnemonic LDX and the last five LDY, each with its form's mode and
operand bytes. -/
theorem ldxAndLdyLoadTheIndexRegisters : Obligations.LdxAndLdyLoadTheIndexRegisters := by
  intro s loadX loadY
  and_intros
  iterate 5 exact fun _ => readsAs_of_mnemonic (mn := .ldx) (ap := applyLdx) s rfl rfl rfl rfl rfl
  iterate 5 exact fun _ => readsAs_of_mnemonic (mn := .ldy) (ap := applyLdy) s rfl rfl rfl rfl rfl

/-- Settles O11: the first three instructions have the mnemonic STX and the last three STY, each with its form's mode
and operand bytes. -/
theorem stxAndStyStoreTheIndexRegisters : Obligations.StxAndStyStoreTheIndexRegisters := by
  intro s
  and_intros
  iterate 3 exact fun _ => writesAs_of_form (value := storeStx) s rfl rfl rfl rfl
  iterate 3 exact fun _ => writesAs_of_form (value := storeSty) s rfl rfl rfl rfl

/-- Settles O15: eight instructions have the mnemonic AND, eight ORA and eight EOR, each with its form's mode and
operand bytes. -/
theorem andOraEorCombineWithAccumulator : Obligations.AndOraEorCombineWithAccumulator := by
  intro s conj disj excl
  and_intros
  iterate 8 exact fun _ => readsAs_of_mnemonic (mn := .and) (ap := applyAnd) s rfl rfl rfl rfl rfl
  iterate 8 exact fun _ => readsAs_of_mnemonic (mn := .ora) (ap := applyOra) s rfl rfl rfl rfl rfl
  iterate 8 exact fun _ => readsAs_of_mnemonic (mn := .eor) (ap := applyEor) s rfl rfl rfl rfl rfl

/-- Settles O16: both instructions have the mnemonic BIT, whose function tests the byte and A. -/
theorem bitTestsWithoutWriting : Obligations.BitTestsWithoutWriting := by
  intro s test
  constructor
  · exact fun _ => readsAs_of_mnemonic (mn := .bit) (ap := applyBit) s rfl rfl rfl rfl rfl
  · exact fun _ => readsAs_of_mnemonic (mn := .bit) (ap := applyBit) s rfl rfl rfl rfl rfl

end Sys2Proof.Machine
end

section
/-! Subtraction (R223): SBC over the integers, and as the addition of the complement (R220). -/

namespace Sys2Proof.Machine

open Sys2Proof

/-- A - m - b as a byte: the model's wrapped difference is the difference over the integers. -/
theorem subC_fst (a m : Byte) (cin : Bool) :
    (subC a m cin).1 = BitVec.ofInt 8 ((a.toNat : Int) - m.toNat - (1 - cin.toNat : Nat)) := by
  simp [subC, Int.sub_eq_add_neg, BitVec.ofInt_add, BitVec.ofInt_neg, BitVec.sub_eq_add_neg]

/-- The effect of SBC of R223, over the integers. -/
def sbcEffect (m : Byte) (r : RegisterFile) : RegisterFile :=
  let borrow := 1 - r.c.toNat
  let res := BitVec.ofInt 8 ((r.a.toNat : Int) - m.toNat - borrow)
  { r with
    a := res, c := decide (m.toNat + borrow ≤ r.a.toNat), v := ((r.a ^^^ res) &&& (r.a ^^^ m) &&& 0x80#8) != 0#8
    z := res == 0#8, n := res.getLsbD 7 }

theorem subC_eq (a m : Byte) (cin : Bool) :
    subC a m cin = ((subC a m cin).1, decide (m.toNat + (1 - cin.toNat) ≤ a.toNat),
      ((a ^^^ (subC a m cin).1) &&& (a ^^^ m) &&& 0x80#8) != 0#8) := rfl

theorem applySbc_eq : applySbc = sbcEffect := by
  funext m r
  rw [applySbc, subC_eq, subC_fst]
  rfl

/-- Settles O14: each of the eight instructions has the mnemonic SBC and its form's mode and operand bytes. -/
theorem sbcSubtractsWithBorrow : Obligations.SbcSubtractsWithBorrow := by
  intro s sub
  have hsbc : applyOf .sbc = some sbcEffect := congrArg some applySbc_eq
  and_intros <;> exact fun _ => readsAs_of_mnemonic (mn := .sbc) (ap := sbcEffect) s rfl rfl hsbc rfl rfl

/-- Subtracting with borrow is adding the complement with the borrow's complement as carry: the result, the carry and
the overflow (R223). -/
theorem subC_eq_addC_complement (a m : Byte) (cin : Bool) : subC a m cin = addC a (~~~m) cin := by
  have hm := m.isLt
  have hcin := cin.toNat_le
  have hcomp : (~~~m).toNat = 255 - m.toNat := BitVec.toNat_not
  have hres : (subC a m cin).1 = BitVec.ofNat 8 (a.toNat + (~~~m).toNat + cin.toNat) := by
    apply BitVec.eq_of_toNat_eq
    simp only [subC, hcomp, BitVec.toNat_sub, BitVec.toNat_ofNat]
    omega
  have hcarry : m.toNat + (1 - cin.toNat) ≤ a.toNat ↔ 0xFF < a.toNat + (~~~m).toNat + cin.toNat := by
    rw [hcomp]
    omega
  have hsign : ~~~a ^^^ ~~~m = a ^^^ m := by ext k; simp
  rw [subC_eq, addC_eq, hres, hsign, decide_eq_decide.mpr hcarry, BitVec.and_comm (a ^^^ m)]

/-- Settles O56: SBC and ADC write the same registers, each from its own triple, and the triples are equal. -/
theorem sbcIsAdcOfTheComplement : Obligations.SbcIsAdcOfTheComplement := by
  intro m r
  rw [applySbc, applyAdc, subC_eq_addC_complement]

end Sys2Proof.Machine
end

section
/-! The one-byte instructions (R141): transfers, index increments and decrements, flag instructions and NOP. -/

namespace Sys2Proof.Machine

open Sys2Proof

/-- A one-byte instruction of R141 applies the function of its mnemonic to the registers. -/
theorem impliedAs_of_exec {i : Instr} {f : RegisterFile → RegisterFile} (s : State) (hf : execOf i.mnemonic = some f)
    (ho : i.operands = []) : ImpliedAs i i.opcode s f := by
  refine ⟨congrArg (i.opcode :: ·) ho, ?_⟩
  rw [Completes, exec_implied s hf]
  exact implied_completes i.opcode i.entry s f

/-- Settles O12: the function of each transfer copies its register. -/
theorem transfersCopyARegister : Obligations.TransfersCopyARegister := by
  intro s
  refine ⟨?tax, ?tay, ?txa, ?tya, ?tsx, ?txs⟩
  case tax => exact impliedAs_of_exec (f := taxExec) s rfl rfl
  case tay => exact impliedAs_of_exec (f := tayExec) s rfl rfl
  case txa => exact impliedAs_of_exec (f := txaExec) s rfl rfl
  case tya => exact impliedAs_of_exec (f := tyaExec) s rfl rfl
  case tsx => exact impliedAs_of_exec (f := tsxExec) s rfl rfl
  case txs => exact impliedAs_of_exec (f := txsExec) s rfl rfl

/-- One more, mod 256. -/
theorem byte_add_one (v : Byte) : v + 1#8 = BitVec.ofNat 8 (v.toNat + 1) :=
  congrArg Prod.fst (incModify_eq v false)

/-- One less, mod 256. -/
theorem byte_sub_one (v : Byte) : v - 1#8 = BitVec.ofInt 8 ((v.toNat : Int) - 1) :=
  congrArg Prod.fst (decModify_eq v false)

/-- Settles O20: the function of each instruction adds or subtracts one and sets Z and N. -/
theorem indexIncrementsAndDecrementsWrap : Obligations.IndexIncrementsAndDecrementsWrap := by
  intro s
  simp only [← byte_add_one, ← byte_sub_one]
  refine ⟨?inx, ?iny, ?dex, ?dey⟩
  case inx => exact impliedAs_of_exec (f := inxExec) s rfl rfl
  case iny => exact impliedAs_of_exec (f := inyExec) s rfl rfl
  case dex => exact impliedAs_of_exec (f := dexExec) s rfl rfl
  case dey => exact impliedAs_of_exec (f := deyExec) s rfl rfl

/-- Settles O30: the function of each flag instruction writes one flag, and that of NOP nothing. -/
theorem flagInstructionsWriteOneFlag : Obligations.FlagInstructionsWriteOneFlag := by
  intro s
  refine ⟨?clc, ?cld, ?cli, ?clv, ?sec, ?sed, ?sei, ?nop⟩
  case clc => exact impliedAs_of_exec (f := clcExec) s rfl rfl
  case cld => exact impliedAs_of_exec (f := cldExec) s rfl rfl
  case cli => exact impliedAs_of_exec (f := cliExec) s rfl rfl
  case clv => exact impliedAs_of_exec (f := clvExec) s rfl rfl
  case sec => exact impliedAs_of_exec (f := secExec) s rfl rfl
  case sed => exact impliedAs_of_exec (f := sedExec) s rfl rfl
  case sei => exact impliedAs_of_exec (f := seiExec) s rfl rfl
  case nop => exact impliedAs_of_exec (f := nopExec) s rfl rfl

end Sys2Proof.Machine
end

section
/-! Stack instructions, JSR, BRK and RTI (R163, R165 to R168): each arm of the dispatch is its form after the decode
clock, and the law of the form is its whole effect. -/

namespace Sys2Proof.Machine

open Sys2Proof

/-- The status byte by place value, with the break bit (R33). -/
theorem packP_true_eq (r : RegisterFile) :
    packP true r = BitVec.ofNat 8 (r.n.toNat * 128 + r.v.toNat * 64 + 32 + 16 + r.d.toNat * 8 + r.i.toNat * 4 +
      r.z.toNat * 2 + r.c.toNat) := by
  simp [packP_eq]

/-- The status byte by place value, without the break bit (R33). -/
theorem packP_false_eq (r : RegisterFile) :
    packP false r = BitVec.ofNat 8 (r.n.toNat * 128 + r.v.toNat * 64 + 32 + r.d.toNat * 8 + r.i.toNat * 4 +
      r.z.toNat * 2 + r.c.toNat) := by
  simp [packP_eq]

/-- Settles O23: PHA and PHP are the sequence of R165, which pushes A or the status byte; PC is not part of either. -/
theorem phaAndPhpPushOneByte : Obligations.PhaAndPhpPushOneByte := by
  intro s fl status pushes
  have hstatus : storePhp (pcAfter 1 s) = status := packP_true_eq s.regs
  refine ⟨⟨rfl, ?_⟩, ⟨rfl, ?_⟩⟩
  · exact pushForm_completes 0x48#8 ⟨.pha, .imp, 3⟩ s storePha
  · exact hstatus ▸ pushForm_completes 0x08#8 ⟨.php, .imp, 3⟩ s storePhp

/-- Settles O24: PLA and PLP are the sequence of R166, which applies the pulled byte. -/
theorem plaAndPlpPullOneByte : Obligations.PlaAndPlpPullOneByte := by
  intro s top v pulls
  refine ⟨⟨rfl, ?_⟩, ⟨rfl, ?_⟩⟩
  · exact pullForm_completes 0x68#8 ⟨.pla, .imp, 4⟩ s applyPla
  · exact pullForm_completes 0x28#8 ⟨.plp, .imp, 4⟩ s applyPlp

/-- Settles O27: JSR has its encoding by definition and its effect by the law of its form, R163. -/
theorem jsrPushesItsLastByteAddress : Obligations.JsrPushesItsLastByteAddress := by
  intro s target pc ret first second
  exact ⟨rfl, callForm_completes 0x20#8 ⟨.jsr, .abs, 6⟩ s target⟩

/-- Settles O31: BRK has its encoding by definition and its effect by the law of its form, R167; the status byte has
the break bit. -/
theorem brkEntersThroughTheIrqVector : Obligations.BrkEntersThroughTheIrqVector := by
  intro s fl status
  have hstatus : packP true s.regs = status := packP_true_eq s.regs
  exact ⟨rfl, hstatus ▸ break_completes 0x00#8 ⟨.brk, .imp, 7⟩ s⟩

/-- Settles O32: RTI has its encoding by definition and its effect by the law of its form, R168. -/
theorem rtiRestoresFlagsAndPc : Obligations.RtiRestoresFlagsAndPc := by
  intro s pc sp a1 a2 a3 p
  exact ⟨rfl, rti_completes 0x40#8 ⟨.rti, .imp, 6⟩ s⟩

/-- Settles O34: the step is `takeNmi`, whose whole effect is the law of the interrupt sequence. -/
theorem nmiIsTakenWhateverIHolds : Obligations.NmiIsTakenWhateverIHolds := by
  intro s hh hs hp hn fl status
  have hstatus : packP false s.regs = status := packP_false_eq s.regs
  rw [step_nmi hh hs hp hn, ← hstatus]
  exact takeNmi_completes s

end Sys2Proof.Machine
end

section
/-! Call and return, interrupt entry and RTI: the second undoes the first when the Bus answers its pulls with the bytes
that were pushed (R270, R271, R309). -/

namespace Sys2Proof.Machine

open Sys2Proof

/-- The state that an effect ends in is the one the outcome answers. -/
theorem EndsWith.of_next {o : Result} {s t : State} {nmi : Bool} {slots : List Slot} {regs : RegisterFile}
    {mem : Addr → Byte} (h : EndsWith o s nmi slots regs mem) (ht : o = .next t) :
    t.regs = regs ∧ ∀ a, t.readMem a = mem a := by
  obtain ⟨t', ht', hregs, hmem, -⟩ := h
  obtain rfl : t = t' := Host.Outcome.next.inj (ht.symm.trans ht')
  exact ⟨hregs, hmem⟩

/-- Successive stack addresses differ. -/
theorem stackSlots_ne (sp : Byte) :
    w16 0x01#8 (sp - 1#8) ≠ w16 0x01#8 sp ∧ w16 0x01#8 (sp - 2#8) ≠ w16 0x01#8 sp ∧
      w16 0x01#8 (sp - 2#8) ≠ w16 0x01#8 (sp - 1#8) := by
  have h2 := stack_ne_two sp
  have h21 := stack_ne_one (sp - 1#8)
  rw [sp_sub_one_one] at h2 h21
  simp [h2, h21]

/-- SP comes back when as many bytes are pulled as were pushed. -/
theorem sp_sub_two_add (sp : Byte) : sp - 2#8 + 1#8 = sp - 1#8 ∧ sp - 2#8 + 2#8 = sp := by
  constructor <;> bv_omega

theorem sp_sub_three_add (sp : Byte) :
    sp - 3#8 + 1#8 = sp - 2#8 ∧ sp - 3#8 + 2#8 = sp - 1#8 ∧ sp - 3#8 + 3#8 = sp := by
  refine ⟨?_, ?_, ?_⟩ <;> bv_omega

/-- Settles O29: RTS pulls the low and the high byte of the address that JSR pushed, and adds one. -/
theorem jsrThenRtsReturns : Obligations.JsrThenRtsReturns := by
  intro s t u target hjsr hsp first second hfirst hsecond
  obtain ⟨-, hcall⟩ := jsrPushesItsLastByteAddress s target
  obtain ⟨hregs, hmem⟩ := EndsWith.of_next hcall hjsr
  have hne : first ≠ second := (stackSlots_ne s.regs.sp).1.symm
  have husp : u.regs.sp = s.regs.sp - 2#8 := by rw [hsp, hregs]
  obtain ⟨-, w, hrts, hw, -⟩ := rtsPullsPcAndAddsOne u
  refine ⟨w, hrts, ?_⟩
  obtain ⟨h1, h2⟩ := sp_sub_two_add s.regs.sp
  rw [hw, husp, h1, h2]
  have hhigh : valueAt 5 first u = hi (s.regs.pc + 2#16) := by rw [hfirst, hmem, if_neg hne, if_pos rfl]
  have hlow : valueAt 4 second u = lo (s.regs.pc + 2#16) := by rw [hsecond, hmem, if_pos rfl]
  have hret : valueAt 5 first u ++ valueAt 4 second u = s.regs.pc + 2#16 := by
    rw [hhigh, hlow]
    exact w16_hi_lo _
  rw [hret, pc_add_two_one]

/-- What taking an interrupt leaves: the three pushed bytes on the stack page, and SP three lower. -/
structure Entered (s t : State) (ret : Addr) (brk : Bool) : Prop where
  sp : t.regs.sp = s.regs.sp - 3#8
  mem : ∀ a, t.readMem a = entryMem ret (packP brk s.regs) s a

theorem entered_of_endsWith {o : Result} {s t : State} {nmi : Bool} {slots : List Slot} {vec ret : Addr} {brk : Bool}
    (h : EndsWith o s nmi slots (entryRegs vec s) (entryMem ret (packP brk s.regs) s)) (ht : o = .next t) :
    Entered s t ret brk := by
  obtain ⟨hregs, hmem⟩ := h.of_next ht
  exact ⟨by rw [hregs]; rfl, hmem⟩

/-- The pushed bytes as the memory after the entry holds them. -/
theorem Entered.stack {s t : State} {ret : Addr} {brk : Bool} (h : Entered s t ret brk) :
    t.readMem (w16 0x01#8 s.regs.sp) = hi ret ∧ t.readMem (w16 0x01#8 (s.regs.sp - 1#8)) = lo ret ∧
      t.readMem (w16 0x01#8 (s.regs.sp - 2#8)) = packP brk s.regs := by
  obtain ⟨h10, h20, h21⟩ := stackSlots_ne s.regs.sp
  simp only [h.mem, entryMem, h10.symm, h20.symm, h21.symm, if_true, if_false, and_self]

/-- Settles O36: each entry pushes PC and the status byte, and RTI pulls them in the opposite order; unpacking the
status byte restores the six flags, whatever the break bit. -/
theorem rtiUndoesInterruptEntry : Obligations.RtiUndoesInterruptEntry := by
  intro s t u ret hentry hsp first second third hfirst hsecond hthird
  obtain ⟨brk, hin⟩ : ∃ brk, Entered s t ret brk := by
    rcases hentry with ⟨rfl, rfl⟩ | ⟨rfl, rfl⟩ | ⟨hbrk, rfl⟩
    · exact ⟨false, entered_of_endsWith (takeNmi_completes s) rfl⟩
    · exact ⟨false, entered_of_endsWith (takeIrq_completes s) rfl⟩
    · exact ⟨true, entered_of_endsWith (break_completes 0x00#8 ⟨.brk, .imp, 7⟩ s) hbrk⟩
  obtain ⟨hhigh, hlow, hstatus⟩ := hin.stack
  have husp : u.regs.sp = s.regs.sp - 3#8 := hsp.trans hin.sp
  obtain ⟨w, hrti, hw, hmem, -⟩ := rti_completes 0x40#8 ⟨.rti, .imp, 6⟩ u
  refine ⟨w, hrti, ?_, hmem⟩
  obtain ⟨h1, h2, h3⟩ := sp_sub_three_add s.regs.sp
  rw [hw, husp, h1, h2, h3]
  have hp : valueAt 4 (w16 0x01#8 (s.regs.sp - 2#8)) u = packP brk s.regs := hthird.trans hstatus
  have hl : valueAt 5 (w16 0x01#8 (s.regs.sp - 1#8)) u = lo ret := hsecond.trans hlow
  have hh : valueAt 6 (w16 0x01#8 s.regs.sp) u = hi ret := hfirst.trans hhigh
  rw [hp, hl, hh, unpackP_packP, w16_hi_lo]

/-! ### I and the next Idle clock (R314, R349) -/

/-- After an instruction at `s` that leaves the interrupt latches, with the IRQ level asserted, the next step is the
IRQ sequence when I is 0, and runs the fetched instruction when I is 1. -/
theorem step_after_of_endsWith {o : Result} {s t : State} {slots : List Slot} {regs : RegisterFile} {mem : Addr → Byte}
    (h : EndsWith o s s.latches.nmiPending slots regs mem) (ht : o = .next t) (hh : s.halted = none)
    (hs : s.stallCycles = 0) (hn : s.latches.nmiPending = false) (hi : s.irqIn = true) :
    (regs.i = false → step t = .next (takeIrq t)) ∧
      (regs.i = true → ∀ j rest, decode (fetchedBytes t) = .ok (j, rest) → step t = exec j t) := by
  obtain ⟨t', ht', hregs, -, hphase, -, -, hlatches, hirq, hstall, hhalted, -⟩ := h
  obtain rfl : t = t' := Host.Outcome.next.inj (ht.symm.trans ht')
  have hpending : t.latches.nmiPending = false := by rw [hlatches, hn]
  refine ⟨fun hI => ?_, fun hI j rest hd => ?_⟩
  · exact step_irq (hhalted.trans hh) (hstall.trans hs) hphase hpending (by rw [hirq, hregs, hi, hI]; rfl)
  · refine stepRunsTheFetchedInstruction t j rest ?_ hd
    exact ⟨hhalted.trans hh, hstall.trans hs, hphase, hpending, by rw [hirq, hregs, hi, hI]; rfl⟩

/-- Settles O37: each of the four instructions leaves I at a known value and the interrupt latches alone, and the next
Idle clock goes by that value. -/
theorem changeOfIGovernsTheNextIdleClock : Obligations.ChangeOfIGovernsTheNextIdleClock := by
  intro s t hh hs hn hi pulled
  obtain ⟨-, -, ⟨-, hcli⟩, -, -, -, ⟨-, hsei⟩, -⟩ := flagInstructionsWriteOneFlag s
  obtain ⟨-, -, hplp⟩ := plaAndPlpPullOneByte s
  obtain ⟨-, hrti⟩ := rtiRestoresFlagsAndPc s
  refine ⟨fun ht => ?_, fun ht => ?_, fun ht => ?_, fun ht => ?_⟩
  · exact (step_after_of_endsWith hcli ht hh hs hn hi).1 rfl
  · exact (step_after_of_endsWith hsei ht hh hs hn hi).2 rfl
  · exact step_after_of_endsWith hplp ht hh hs hn hi
  · exact step_after_of_endsWith hrti ht hh hs hn hi

end Sys2Proof.Machine
end

section
/-! The core between clocks: the stall gate (R139, R140), the halted core (R43, R312), power-on (R44, R340, R341), the
host's calls (R343 to R350), an unknown opcode (R104, R310) and a store into the next instruction (R77). -/

namespace Sys2Proof.Machine

open Sys2Proof

/-! ### The stall gate -/

/-- `n` stalled clocks take `n` off the counter and add `n` to the clock number. -/
theorem clocks_stalled {n : Nat} {s : State} (hh : s.halted = none) (hn : n ≤ s.stallCycles) :
    clocks n s = { s with stallCycles := s.stallCycles - n, bus := { s.bus with now := s.bus.now + n } } := by
  induction n with
  | zero => rfl
  | succ n ih =>
    rw [clocks_succ_last, ih (Nat.le_of_succ_le hn), clock_stalled]
    · rfl
    · exact hh
    · exact Nat.sub_ne_zero_of_lt hn

/-- Settles O38: the counter counts the stalled clocks, and the clocks after them start from what they leave. -/
theorem stallFreezesTheCore : Obligations.StallFreezesTheCore := by
  intro s n hh
  refine ⟨clocks_stalled hh, ?_⟩
  rw [clocks_add, clocks_stalled hh le_rfl, Nat.sub_self]

/-! ### The halted core -/

theorem clocks_halted {s : State} {f : Fault} (h : s.halted = some f) (n : Nat) : clocks n s = s := by
  induction n with
  | zero => rfl
  | succ n ih => rw [clocks_succ, clock_halted h, ih]

theorem unlessHalted_halted {s : State} {f : Fault} (h : s.halted = some f) (call : State → State) :
    unlessHalted call s = s := by
  simp only [unlessHalted, h]

theorem unlessHalted_running {s : State} (h : s.halted = none) (call : State → State) :
    unlessHalted call s = call s := by
  simp only [unlessHalted, h]

theorem addStall_halted {s : State} {f : Fault} (h : s.halted = some f) (n : Nat) : addStall n s = .next s := by
  simp only [addStall, h]

theorem addStall_running {s : State} (h : s.halted = none) (n : Nat) :
    addStall n s = if s.config.stallFits (s.stallCycles + n) then .next { s with stallCycles := s.stallCycles + n }
      else .refused .stallOverflow := by
  simp only [addStall, h]

theorem restore_halted {s : State} {f : Fault} (h : s.halted = some f) (r : RegisterFile) : restore r s = .next s := by
  simp only [restore, h]

theorem restore_idle {s : State} (h : s.halted = none) (hp : s.seq.phase = .idle) (r : RegisterFile) :
    restore r s = .next { s with regs := r } := by
  simp only [restore, h, hp]

theorem restore_inFlight {s : State} (h : s.halted = none) (hp : s.seq.phase ≠ .idle) (r : RegisterFile) :
    restore r s = .refused .restoreInFlight := by
  simp only [restore, h]

/-- Settles O39: the clock, the step and every host call answer a halted core with itself or with its fault. -/
theorem haltedStaysHalted : Obligations.HaltedStaysHalted := by
  intro s f n r h
  exact ⟨clocks_halted h n, step_halted h, unlessHalted_halted h _, unlessHalted_halted h _, unlessHalted_halted h _,
    addStall_halted h n, restore_halted h r, unlessHalted_halted h _⟩

/-- The decode clock of an opcode byte without an entry (R310). -/
theorem clock_unknown {s : State} (hr : Ready s) (he : lookup (instrByte 0 s) = none) :
    clock s = { fetchCycle (instrByte 0 s) s with
      seq := s.seq, halted := some (.unknownOpcode (instrByte 0 s) s.regs.pc) } := by
  obtain ⟨hh, hs, hp, hn, hi⟩ := hr
  have ha : answer s.regs.pc (poll s) = instrByte 0 s := by simp [answer, instrByte]
  rw [clock_decode hh hs hp hn hi]
  simp only [decodeRow, poll_regs, poll_seq, ha, he, fetchCycle_poll]

/-- Settles O40: the decode clock makes its one read and halts, and a halted core stays as it is. -/
theorem unknownOpcodeHalts : Obligations.UnknownOpcodeHalts := by
  intro s n hr he f
  have hclock := clock_unknown hr he
  have hhalted := clock_of_unknown hr he
  refine ⟨step_of_unknown hr he, rfl, hhalted, ?_, ?_, ?_, ?_⟩
  · rw [hclock]
    rfl
  · rw [hclock]
    rfl
  · rw [hclock]
    rfl
  · rw [clocks_succ, clocks_halted hhalted n]

/-! ### Power-on and the host's calls -/

/-- The two reads of the reset vector and the PC they give (R341); the second read is answered as before the first. -/
theorem loadResetVector_running {s : State} (h : s.halted = none) :
    loadResetVector s =
      { s with
        regs := { s.regs with pc := w16 (answerBetween 0xFFFD#16 s) (answerBetween 0xFFFC#16 s) }
        bus := { s.bus with
          trace := ⟨s.bus.now, .read, 0xFFFC#16, answerBetween 0xFFFC#16 s⟩ ::
            ⟨s.bus.now, .read, 0xFFFD#16, answerBetween 0xFFFD#16 s⟩ :: s.bus.trace } } := by
  rw [loadResetVector, unlessHalted_running h]
  rfl

/-- Settles O41: the fields of the power-on state, and the reset-vector load in every running state. -/
theorem resetStateHoldsTheSpecValues : Obligations.ResetStateHoldsTheSpecValues := by
  refine ⟨⟨rfl, rfl, rfl, rfl, rfl, rfl, rfl, rfl, rfl, rfl, rfl⟩, fun s hh => ?_⟩
  exact loadResetVector_running hh

/-- Settles O42: both states are evaluated. -/
theorem resetMeetsTheInvariant : Obligations.ResetMeetsTheInvariant := ⟨rfl, rfl⟩

/-- Settles O54: what each call does to a running core, the stall by whether the sum fits and the restore by the
phase. -/
theorem hostCallsChangeOnlyTheirField : Obligations.HostCallsChangeOnlyTheirField := by
  intro s n r hh
  have hnmi : ∀ {u : State}, u.halted = none →
      triggerNmi u = { u with latches := { u.latches with nmiPending := true } } := fun h => unlessHalted_running h _
  refine ⟨hnmi hh, ?_, unlessHalted_running hh _, unlessHalted_running hh _, fun hfits => ?_, fun hover => ?_, rfl,
    fun hp => ⟨restore_idle hh hp r, restore_idle hh hp _, fun t ht => ?_⟩, fun hp => restore_inFlight hh hp r⟩
  · rw [hnmi hh]
    exact hnmi hh
  · rw [addStall_running hh, if_pos hfits]
  · rw [addStall_running hh, if_neg (by simp [hover])]
  · rw [restore_idle hh hp, Host.Outcome.next.injEq] at ht
    exact ht ▸ rfl

/-! ### A store into the next instruction -/

/-- Settles O58: with RAM alone behind the Bus, the next fetch reads memory as the store left it. -/
theorem storeIsSeenByTheNextFetch : Obligations.StoreIsSeenByTheNextFetch := by
  intro s t a k hram ht
  obtain ⟨-, -, hsta, -⟩ := staStoresAccumulator s
  obtain ⟨-, t', ht', hregs, hmem, -, -, hbus, -⟩ := hsta a
  obtain rfl : t = t' := Host.Outcome.next.inj (ht.symm.trans ht')
  have hpc : t.regs.pc = s.regs.pc + 3#16 := by rw [hregs]; rfl
  have hanswers : t.bus.answers = [] := by rw [hbus]; exact hram
  have hbyte : instrByte k t = t.readMem (s.regs.pc + 3#16 + BitVec.ofNat 16 k) := by
    rw [instrByte, answerAt_ram hanswers, hpc]
  rw [hbyte, hmem]
  exact ⟨fun hat => if_pos hat, fun hne => if_neg hne⟩

end Sys2Proof.Machine
end

section
/-! The frame of a row: what every row of every table keeps, in every state, and its one bus access (R73, R138). A row
is one bus operation and updates of latches and registers around it. -/

namespace Sys2Proof.Machine

open Sys2Proof

/-- The clock from `s` to `s'` made one access, in its own number, or was a dummy clock without one (R12, R73). -/
def OneAccess (s s' : State) : Prop :=
  (∃ k a v, s'.bus.trace = ⟨s.bus.now + 1, k, a, v⟩ :: s.bus.trace) ∨
    (s.config.dummyBus = .none ∧ s'.bus.trace = s.bus.trace)

/-- What any row does from any state: it keeps memory canonical, the stall count, the parameters and every latch that
is set; unless it ends the instruction it writes PC and SP alone; and a clock that it counts makes one access. -/
structure RowFrame (s s' : State) : Prop where
  mem : Memory.wf s.mem = true → Memory.wf s'.mem = true
  stall : s'.stallCycles = s.stallCycles
  config : s'.config = s.config
  ea : s.seq.effectiveAddress.isSome = true → s'.seq.effectiveAddress.isSome = true
  operand : s.seq.operand.isSome = true → s'.seq.operand.isSome = true
  temp : s.seq.tempLatch.isSome = true → s'.seq.tempLatch.isSome = true
  regs : s'.seq.phase = .idle ∨ s'.regs = { s.regs with pc := s'.regs.pc, sp := s'.regs.sp }
  access : OneAccess s s' ∨ s'.seq.t = s.seq.t

section Operations

variable {s s' : State}

/-! ### One bus operation -/

@[simp] theorem raise_frame (f : Fault) : RowFrame s (raise f s) :=
  ⟨id, rfl, rfl, id, id, id, .inr rfl, .inr rfl⟩

@[simp] theorem readCycle_frame (a : Addr) : RowFrame s (readCycle a s) :=
  ⟨id, rfl, rfl, id, id, id, .inr rfl, .inl (.inl ⟨_, _, _, rfl⟩)⟩

@[simp] theorem readAtPc_frame (v : Byte) : RowFrame s (readAtPc v s) :=
  ⟨id, rfl, rfl, id, id, id, .inr rfl, .inl (.inl ⟨_, _, _, rfl⟩)⟩

@[simp] theorem fetchCycle_frame (v : Byte) : RowFrame s (fetchCycle v s) :=
  ⟨id, rfl, rfl, id, id, id, .inr rfl, .inl (.inl ⟨_, _, _, rfl⟩)⟩

@[simp] theorem writeCycle_frame (a : Addr) (v : Byte) : RowFrame s (writeCycle a v s) :=
  ⟨fun h => writeCycle_wf h a v, rfl, rfl, id, id, id, .inr rfl, .inl (.inl ⟨_, _, _, rfl⟩)⟩

@[simp] theorem push_frame (v : Byte) : RowFrame s (push v s) :=
  ⟨fun h => push_wf h v, rfl, rfl, id, id, id, .inr rfl, .inl (.inl ⟨_, _, _, rfl⟩)⟩

theorem dummyRead_oneAccess (a : Addr) (s : State) : OneAccess s (dummyRead a s) := by
  unfold dummyRead
  split
  · exact .inl ⟨_, _, _, rfl⟩
  · next h => exact .inr ⟨h, rfl⟩

theorem dummyWrite_oneAccess (a : Addr) (v : Byte) (s : State) : OneAccess s (dummyWrite a v s) := by
  unfold dummyWrite
  split
  · exact .inl ⟨_, _, _, rfl⟩
  · next h => exact .inr ⟨h, rfl⟩

@[simp] theorem dummyRead_frame (a : Addr) : RowFrame s (dummyRead a s) :=
  ⟨by simp, by simp, by simp, by simp, by simp, by simp, by simp, .inl (dummyRead_oneAccess a s)⟩

@[simp] theorem dummyWrite_frame (a : Addr) (v : Byte) : RowFrame s (dummyWrite a v s) :=
  ⟨fun h => dummyWrite_wf h a v, by simp, by simp, by simp, by simp, by simp, by simp,
    .inl (dummyWrite_oneAccess a v s)⟩

/-! ### The updates around it -/

@[simp] theorem setEa_frame (h : RowFrame s s') (a : Addr) : RowFrame s (setEa a s') :=
  ⟨h.mem, h.stall, h.config, fun _ => rfl, h.operand, h.temp, h.regs, h.access⟩

@[simp] theorem setOperand_frame (h : RowFrame s s') (v : Byte) : RowFrame s (setOperand v s') :=
  ⟨h.mem, h.stall, h.config, h.ea, fun _ => rfl, h.temp, h.regs, h.access⟩

@[simp] theorem setTemp_frame (h : RowFrame s s') (v : Byte) : RowFrame s (setTemp v s') :=
  ⟨h.mem, h.stall, h.config, h.ea, h.operand, fun _ => rfl, h.regs, h.access⟩

@[simp] theorem setCrossed_frame (h : RowFrame s s') (b : Bool) : RowFrame s (setCrossed b s') :=
  ⟨h.mem, h.stall, h.config, h.ea, h.operand, h.temp, h.regs, h.access⟩

@[simp] theorem setPc_frame (h : RowFrame s s') (a : Addr) : RowFrame s (setPc a s') :=
  ⟨h.mem, h.stall, h.config, h.ea, h.operand, h.temp, h.regs.imp_right fun hr => by rw [setPc_regs, hr], h.access⟩

@[simp] theorem setSp_frame (h : RowFrame s s') (v : Byte) : RowFrame s (setSp v s') :=
  ⟨h.mem, h.stall, h.config, h.ea, h.operand, h.temp, h.regs.imp_right fun hr => by rw [setSp_regs, hr], h.access⟩

@[simp] theorem endInstr_frame (h : RowFrame s s') : RowFrame s (endInstr s') :=
  ⟨h.mem, h.stall, h.config, h.ea, h.operand, h.temp, .inl rfl, h.access⟩

/-- Registers and flags are written on the last clock (R138). -/
@[simp] theorem endInstr_mapRegs_frame (h : RowFrame s s') (f : RegisterFile → RegisterFile) :
    RowFrame s (endInstr (mapRegs f s')) :=
  ⟨h.mem, h.stall, h.config, h.ea, h.operand, h.temp, .inl rfl, h.access⟩

/-! ### Reading a latch, calling a function, going on or ending -/

@[simp] theorem withEa_frame {row : Addr → State} (hr : ∀ a, RowFrame s (row a)) : RowFrame s (withEa s row) := by
  unfold withEa
  split
  · exact hr _
  · exact raise_frame _

@[simp] theorem withOperand_frame {row : Byte → State} (hr : ∀ v, RowFrame s (row v)) :
    RowFrame s (withOperand s row) := by
  unfold withOperand
  split
  · exact hr _
  · exact raise_frame _

@[simp] theorem withTemp_frame {row : Byte → State} (hr : ∀ v, RowFrame s (row v)) : RowFrame s (withTemp s row) := by
  unfold withTemp
  split
  · exact hr _
  · exact raise_frame _

@[simp] theorem withFunction_frame {α : Type} {f : Option α} {row : α → State} (hr : ∀ g, RowFrame s (row g)) :
    RowFrame s (withFunction f s row) := by
  unfold withFunction
  split
  · exact hr _
  · exact raise_frame _

@[simp] theorem ite_frame {c : Prop} [Decidable c] {t : State} (h : RowFrame s s') (h' : RowFrame s t) :
    RowFrame s (if c then s' else t) := by
  split
  · exact h
  · exact h'

/-- Latching the address before the bus operation adds nothing to the frame. -/
theorem frame_of_setEa {a : Addr} (h : RowFrame (setEa a s) s') : RowFrame s s' :=
  ⟨h.mem, h.stall, h.config, fun _ => h.ea rfl, h.operand, h.temp, h.regs, h.access⟩

/-! ### The rows -/

@[simp] theorem rowFetchZp_frame : RowFrame s (rowFetchZp s) := setEa_frame (fetchCycle_frame _) _

@[simp] theorem rowFetchOperand_frame : RowFrame s (rowFetchOperand s) := setOperand_frame (fetchCycle_frame _) _

@[simp] theorem rowFetchTemp_frame : RowFrame s (rowFetchTemp s) := setTemp_frame (fetchCycle_frame _) _

@[simp] theorem rowDummyPc_frame : RowFrame s (rowDummyPc s) := dummyRead_frame _

@[simp] theorem brkSkip_frame : RowFrame s (brkSkip s) := setPc_frame (dummyRead_frame _) _

@[simp] theorem pullDummy_frame : RowFrame s (pullDummy s) := setSp_frame (dummyRead_frame _) _

@[simp] theorem rtsLow_frame : RowFrame s (rtsLow s) := setSp_frame (setTemp_frame (readCycle_frame _) _) _

@[simp] theorem rtsFinal_frame : RowFrame s (rtsFinal s) := endInstr_frame (setPc_frame (dummyRead_frame _) _)

@[simp] theorem rtiStatus_frame : RowFrame s (rtiStatus s) := setSp_frame (setOperand_frame (readCycle_frame _) _) _

@[simp] theorem jsrBack_frame : RowFrame s (jsrBack s) := setPc_frame (dummyRead_frame _) _

@[simp] theorem vectorLow_frame (vec : Addr) : RowFrame s (vectorLow vec s) := setTemp_frame (readCycle_frame _) _

@[simp] theorem rowExec_frame : RowFrame s (rowExec s) :=
  withFunction_frame fun _ => endInstr_mapRegs_frame (dummyRead_frame _) _

@[simp] theorem rowModifyAcc_frame : RowFrame s (rowModifyAcc s) :=
  withFunction_frame fun _ => endInstr_mapRegs_frame (dummyRead_frame _) _

@[simp] theorem rowReadImm_frame : RowFrame s (rowReadImm s) :=
  withFunction_frame fun _ => endInstr_mapRegs_frame (setOperand_frame (fetchCycle_frame _) _) _

@[simp] theorem rowStore_frame : RowFrame s (rowStore s) := withFunction_frame fun _ => endInstr_frame (push_frame _)

@[simp] theorem rowPullFinal_frame : RowFrame s (rowPullFinal s) :=
  withFunction_frame fun _ => endInstr_mapRegs_frame (readCycle_frame _) _

@[simp] theorem rowRead_frame : RowFrame s (rowRead s) :=
  withEa_frame fun _ => withFunction_frame fun _ => endInstr_mapRegs_frame (setOperand_frame (readCycle_frame _) _) _

@[simp] theorem rowReadLocal_frame : RowFrame s (rowReadLocal s) :=
  withEa_frame fun _ => withFunction_frame fun _ => endInstr_mapRegs_frame (readCycle_frame _) _

@[simp] theorem rowWrite_frame : RowFrame s (rowWrite s) :=
  withEa_frame fun _ => withFunction_frame fun _ => endInstr_frame (writeCycle_frame _ _)

@[simp] theorem rowRmwRead_frame : RowFrame s (rowRmwRead s) :=
  withEa_frame fun _ => setTemp_frame (setOperand_frame (readCycle_frame _) _) _

@[simp] theorem rowRmwApply_frame : RowFrame s (rowRmwApply s) :=
  withEa_frame fun _ => withOperand_frame fun _ => withTemp_frame fun _ => withFunction_frame fun _ =>
    setTemp_frame (dummyWrite_frame _ _) _

@[simp] theorem rowRmwWrite_frame : RowFrame s (rowRmwWrite s) :=
  withEa_frame fun _ => withOperand_frame fun _ => withTemp_frame fun _ => withFunction_frame fun _ =>
    endInstr_mapRegs_frame (writeCycle_frame _ _) _

@[simp] theorem rowFetchHigh_frame : RowFrame s (rowFetchHigh s) :=
  withEa_frame fun _ => setEa_frame (fetchCycle_frame _) _

@[simp] theorem rowFetchHighChecked_frame : RowFrame s (rowFetchHighChecked s) :=
  withEa_frame fun _ => setCrossed_frame (setEa_frame (fetchCycle_frame _) _) _

@[simp] theorem rowIndexZp_frame : RowFrame s (rowIndexZp s) :=
  withEa_frame fun _ => setEa_frame (dummyRead_frame _) _

@[simp] theorem rowFixup_frame : RowFrame s (rowFixup s) := withEa_frame fun _ => setEa_frame (dummyRead_frame _) _

@[simp] theorem rowIzxIndex_frame : RowFrame s (rowIzxIndex s) :=
  withOperand_frame fun _ => setOperand_frame (dummyRead_frame _) _

@[simp] theorem rowPointerLow_frame : RowFrame s (rowPointerLow s) :=
  withOperand_frame fun _ => setEa_frame (readCycle_frame _) _

@[simp] theorem rowPointerHigh_frame : RowFrame s (rowPointerHigh s) :=
  withOperand_frame fun _ => withEa_frame fun _ => setEa_frame (readCycle_frame _) _

@[simp] theorem rowPointerHighChecked_frame : RowFrame s (rowPointerHighChecked s) :=
  withOperand_frame fun _ => withEa_frame fun _ => setCrossed_frame (setEa_frame (readCycle_frame _) _) _

@[simp] theorem rowJumpFinal_frame : RowFrame s (rowJumpFinal s) :=
  withTemp_frame fun _ => endInstr_frame (setPc_frame (readAtPc_frame _) _)

@[simp] theorem rowJumpLow_frame : RowFrame s (rowJumpLow s) :=
  withEa_frame fun _ => setTemp_frame (readCycle_frame _) _

@[simp] theorem rowJumpHigh_frame : RowFrame s (rowJumpHigh s) :=
  withEa_frame fun _ => withTemp_frame fun _ => endInstr_frame (setPc_frame (readCycle_frame _) _)

@[simp] theorem rowJsrFinal_frame : RowFrame s (rowJsrFinal s) :=
  withOperand_frame fun _ => withTemp_frame fun _ => endInstr_frame (setPc_frame (push_frame _) _)

@[simp] theorem rowRtsHigh_frame : RowFrame s (rowRtsHigh s) :=
  withTemp_frame fun _ => setPc_frame (readCycle_frame _) _

@[simp] theorem rowVectorHigh_frame (vec : Addr) : RowFrame s (rowVectorHigh vec s) :=
  withTemp_frame fun _ => endInstr_mapRegs_frame (readCycle_frame _) _

@[simp] theorem rowRtiFinal_frame : RowFrame s (rowRtiFinal s) :=
  withOperand_frame fun _ => withTemp_frame fun _ => endInstr_mapRegs_frame (readCycle_frame _) _

@[simp] theorem rowFixupOrRead_frame {row : State → State} (hr : ∀ s, RowFrame s (row s)) :
    RowFrame s (rowFixupOrRead row s) :=
  ite_frame rowFixup_frame (withEa_frame fun _ => frame_of_setEa (hr (setEa _ s)))

@[simp] theorem rowAfterFixup_frame {row : State → State} (hr : ∀ s, RowFrame s (row s)) :
    RowFrame s (rowAfterFixup row s) :=
  ite_frame (hr s) (raise_frame _)

@[simp] theorem rowBranchFetch_frame : RowFrame s (rowBranchFetch s) :=
  withFunction_frame fun _ =>
    have hfetch : RowFrame s (branchFetch (answer s.regs.pc s) s) := setOperand_frame (fetchCycle_frame _) _
    ite_frame hfetch (endInstr_frame hfetch)

@[simp] theorem rowBranchTake_frame : RowFrame s (rowBranchTake s) :=
  withOperand_frame fun offset =>
    have htake : RowFrame s (branchTake offset s) :=
      setPc_frame (setCrossed_frame (setEa_frame (setTemp_frame (dummyRead_frame _) _) _) _) _
    ite_frame htake (endInstr_frame htake)

@[simp] theorem rowBranchFix_frame : RowFrame s (rowBranchFix s) :=
  ite_frame (withTemp_frame fun _ => endInstr_frame (dummyRead_frame _)) (raise_frame _)

end Operations

/-! ### The tables -/

theorem rowsOf_frame (q : Sequence) : ∀ row ∈ rowsOf q, ∀ s, RowFrame s (row s) := by
  cases q <;> simp [rowsOf, rmwRows, entryRows, rowPushPcHigh, rowPushPcLow, rowPushStatus, jsrPushHigh]

/-- The rows T2 to T7 of an NMI or IRQ sequence (R302). -/
def interruptRows (vec : Addr) : List (State → State) := rowDummyPc :: entryRows vec false

theorem interruptRows_frame (vec : Addr) : ∀ row ∈ interruptRows vec, ∀ s, RowFrame s (row s) := by
  simp [interruptRows, entryRows, rowPushPcHigh, rowPushPcLow, rowPushStatus]

/-- The table of R302 in every state: T1 and T2 are the same row, and there is no row past T7. -/
theorem rowInterrupt_cases (vec : Addr) (s : State) :
    (∃ row ∈ interruptRows vec, rowInterrupt vec s = row s) ∨ rowInterrupt vec s = raise .noSuchRow s := by
  rcases ht : s.seq.t with _ | n
  · exact .inl ⟨rowDummyPc, List.mem_cons_self, by simp only [rowInterrupt, ht]⟩
  · by_cases hn : n < (interruptRows vec).length
    · exact .inl ⟨_, List.getElem_mem hn, rowInterrupt_eq (List.getElem?_eq_getElem hn) ht⟩
    · obtain ⟨k, rfl⟩ : ∃ k, n = k + 6 := ⟨n - 6, by simp [interruptRows, entryRows] at hn; omega⟩
      exact .inr (by simp only [rowInterrupt, rowInterruptShape, ht])

theorem rowOf_cases (q : Sequence) (s : State) :
    (∃ row ∈ rowsOf q, rowOf q s = row s) ∨ rowOf q s = raise .noSuchRow s := by
  rcases ht : s.seq.t with _ | n
  · exact .inr (rowOf_noSuchRow (.inl ht))
  · by_cases hn : n < (rowsOf q).length
    · exact .inl ⟨_, List.getElem_mem hn, rowOf_eq (List.getElem?_eq_getElem hn) ht⟩
    · exact .inr (rowOf_noSuchRow (.inr ⟨n - (rowsOf q).length, by omega⟩))

/-- What a clock of a sequence can be: a fault, a row of the instruction's table, or a row of R302 (R130, R135). -/
theorem microStep_cases (s : State) :
    (∃ f, microStep s = raise f s) ∨
      (∃ q, sequenceOf s.seq.mnemonic s.seq.mode = some q ∧ ∃ row ∈ rowsOf q, microStep s = row s) ∨
      (s.seq.phase ≠ .exec ∧ ∃ vec, ∃ row ∈ interruptRows vec, microStep s = row s) := by
  unfold microStep
  split
  next hp =>
    split
    next q hq =>
      rcases rowOf_cases q s with hrow | hnone
      · exact .inr (.inl ⟨q, hq, hrow⟩)
      · exact .inl ⟨_, hnone⟩
    · exact .inl ⟨_, rfl⟩
  next hp =>
    rcases rowInterrupt_cases nmiVector s with hrow | hnone
    · exact .inr (.inr ⟨by simp [hp], nmiVector, hrow⟩)
    · exact .inl ⟨_, hnone⟩
  next hp =>
    rcases rowInterrupt_cases irqVector s with hrow | hnone
    · exact .inr (.inr ⟨by simp [hp], irqVector, hrow⟩)
    · exact .inl ⟨_, hnone⟩
  · exact .inl ⟨_, rfl⟩

theorem microStep_frame (s : State) : RowFrame s (microStep s) := by
  rcases microStep_cases s with ⟨f, h⟩ | ⟨q, -, row, hmem, h⟩ | ⟨-, vec, row, hmem, h⟩ <;> rw [h]
  · exact raise_frame f
  · exact rowsOf_frame q row hmem s
  · exact interruptRows_frame vec row hmem s

/-! ### The clocks -/

/-- A clock of a sequence in flight, from any state; the poll before it touches nothing of the frame. -/
theorem clock_frame {s : State} (hh : s.halted = none) (hs : s.stallCycles = 0) (hp : s.seq.phase ≠ .idle) :
    RowFrame s (clock s) := by
  have h := microStep_frame (poll s)
  rw [clock_inFlight hh hs hp]
  exact ⟨h.mem, h.stall, h.config, h.ea, h.operand, h.temp, h.regs, h.access⟩

/-- What an Idle clock does: it begins an interrupt sequence with a dummy read of PC, decodes an instruction, or halts
on an unknown opcode (R131, R133, R310). -/
theorem idle_clock_cases {s : State} (hh : s.halted = none) (hs : s.stallCycles = 0) (hp : s.seq.phase = .idle) :
    (∃ phase u, (phase = .nmiSeq ∨ phase = .irqSeq) ∧ u.regs = s.regs ∧ u.seq = s.seq ∧ u.mem = s.mem ∧
        u.bus = s.bus ∧ u.config = s.config ∧ u.stallCycles = s.stallCycles ∧
        clock s = dummyRead s.regs.pc (beginInterrupt phase u)) ∨
      (∃ e, lookup (instrByte 0 s) = some e ∧ clock s = decodeClock (instrByte 0 s) e s) ∨
      clock s = { fetchCycle (instrByte 0 s) s with
        seq := s.seq, halted := some (.unknownOpcode (instrByte 0 s) s.regs.pc) } := by
  cases hn : s.latches.nmiPending
  case true =>
    rw [clock_nmi hh hs hp hn, microStep_beginInterrupt (.inl rfl)]
    exact .inl ⟨.nmiSeq, { poll s with latches := { (poll s).latches with nmiPending := false } }, .inl rfl, rfl, rfl,
      rfl, rfl, rfl, rfl, rfl⟩
  cases hi : s.irqIn && !s.regs.i
  case true =>
    rw [clock_irq hh hs hp hn hi, microStep_beginInterrupt (.inr rfl)]
    exact .inl ⟨.irqSeq, poll s, .inr rfl, rfl, rfl, rfl, rfl, rfl, rfl, rfl⟩
  have hr : Ready s := ⟨hh, hs, hp, hn, hi⟩
  cases he : lookup (instrByte 0 s) with
  | some e => exact .inr (.inl ⟨e, rfl, clock_ready hr rfl he⟩)
  | none => exact .inr (.inr (clock_unknown hr he))

/-- An Idle clock makes one access (R73). -/
theorem idle_clock_oneAccess {s : State} (hh : s.halted = none) (hs : s.stallCycles = 0) (hp : s.seq.phase = .idle) :
    OneAccess s (clock s) := by
  rcases idle_clock_cases hh hs hp with ⟨phase, u, -, -, -, -, hbus, hconfig, -, hc⟩ | ⟨e, -, hc⟩ | hc <;> rw [hc]
  · have h := dummyRead_oneAccess s.regs.pc (beginInterrupt phase u)
    rwa [OneAccess, beginInterrupt_bus, beginInterrupt_config, hbus, hconfig] at h
  · exact .inl ⟨_, _, _, rfl⟩
  · exact .inl ⟨_, _, _, rfl⟩

/-- Settles O49: a halted or stalled clock records nothing; a running clock counts, by the invariant, and a counted
clock makes one access. -/
theorem oneAccessPerClock : Obligations.OneAccessPerClock := by
  intro s hw
  have hseq : s.seq.wf = true := by
    simp only [State.wf, Bool.and_eq_true] at hw
    obtain ⟨⟨⟨-, hseq⟩, -⟩, -⟩ := hw
    exact hseq
  refine ⟨fun hstop => ?_, fun hh hs => ?_⟩
  · cases hh : s.halted with
    | some f => rw [clock_halted hh]
    | none =>
      rw [clock_stalled hh (hstop.resolve_left fun h => h hh)]
      rfl
  · by_cases hp : s.seq.phase = .idle
    · exact idle_clock_oneAccess hh hs hp
    · obtain ⟨phase, c, ht, -⟩ := clock_counts hseq hh hs hp
      exact (clock_frame hh hs hp).access.resolve_right (by omega)

/-! ### When registers and memory change (R138) -/

/-- A row that leaves memory alone or ends the instruction. -/
def StoresLast (row : State → State) : Prop := ∀ s, (row s).seq.phase = .idle ∨ (row s).mem = s.mem

section StoresLast

variable {s : State}

theorem withEa_mem {row : Addr → State} (hr : ∀ a, (row a).mem = s.mem) : (withEa s row).mem = s.mem := by
  unfold withEa
  split
  · exact hr _
  · rfl

theorem withOperand_mem {row : Byte → State} (hr : ∀ v, (row v).mem = s.mem) : (withOperand s row).mem = s.mem := by
  unfold withOperand
  split
  · exact hr _
  · rfl

theorem rowWrite_storesLast : StoresLast rowWrite := by
  intro s
  unfold rowWrite withEa withFunction
  split
  · split
    · exact .inl rfl
    · exact .inr rfl
  · exact .inr rfl

/-- The address rows of the W-kind sequences make reads alone (R145 to R159). -/
theorem writeSequence_storesLast {mode : Mode} {q : Sequence} (hq : writeSequence mode = some q) :
    ∀ row ∈ rowsOf q, StoresLast row := by
  have fetchZp : StoresLast rowFetchZp := fun s => .inr rfl
  have fetchOperand : StoresLast rowFetchOperand := fun s => .inr rfl
  have fetchHigh : StoresLast rowFetchHigh := fun s => .inr (withEa_mem fun _ => rfl)
  have fetchHighChecked : StoresLast rowFetchHighChecked := fun s => .inr (withEa_mem fun _ => rfl)
  have indexZp : StoresLast rowIndexZp := fun s => .inr (withEa_mem fun _ => by simp)
  have fixup : StoresLast rowFixup := fun s => .inr (withEa_mem fun _ => by simp [fixup])
  have izxIndex : StoresLast rowIzxIndex := fun s => .inr (withOperand_mem fun _ => by simp)
  have pointerLow : StoresLast rowPointerLow := fun s => .inr (withOperand_mem fun _ => rfl)
  have pointerHigh : StoresLast rowPointerHigh := fun s => .inr (withOperand_mem fun _ => withEa_mem fun _ => rfl)
  have pointerHighChecked : StoresLast rowPointerHighChecked :=
    fun s => .inr (withOperand_mem fun _ => withEa_mem fun _ => rfl)
  have write := rowWrite_storesLast
  cases mode <;> cases hq <;> simp [rowsOf, *]

end StoresLast

/-- A W-kind instruction in flight has a sequence of R145 to R159 (R135). -/
theorem writeSequence_of_kind {mn : Mnemonic} {mode : Mode} {q : Sequence} (hk : kindOf mn = .write)
    (hq : sequenceOf mn mode = some q) : writeSequence mode = some q := by
  unfold sequenceOf at hq
  split at hq
  · rwa [hk] at hq
  · cases hq

/-- A clock of a store in flight ends it or leaves memory alone. -/
theorem store_clock_mem {s : State} (hh : s.halted = none) (hs : s.stallCycles = 0) (hp : s.seq.phase = .exec)
    (hk : kindOf s.seq.mnemonic = .write) : (clock s).seq.phase = .idle ∨ (clock s).mem = s.mem := by
  rw [clock_inFlight hh hs (by simp [hp])]
  rcases microStep_cases (poll s) with ⟨f, h⟩ | ⟨q, hq, row, hmem, h⟩ | ⟨hne, -⟩
  · exact .inr (by rw [h]; rfl)
  · rw [h]
    exact writeSequence_storesLast (writeSequence_of_kind hk hq) row hmem (poll s)
  · exact absurd hp hne

/-- Settles O51: a stalled or halted clock changes no register; a clock in flight has its row's frame; an Idle clock
that begins something writes PC alone. -/
theorem registersChangeOnlyOnTheLastClock : Obligations.RegistersChangeOnlyOnTheLastClock := by
  intro s hidle
  cases hh : s.halted with
  | some f =>
    rw [clock_halted hh]
    exact ⟨rfl, fun _ _ => rfl⟩
  | none =>
  by_cases hs : s.stallCycles = 0
  case neg =>
    rw [clock_stalled hh hs]
    exact ⟨rfl, fun _ _ => rfl⟩
  by_cases hp : s.seq.phase = .idle
  case neg =>
    exact ⟨(clock_frame hh hs hp).regs.resolve_left hidle,
      fun hx hk => (store_clock_mem hh hs hx hk).resolve_left hidle⟩
  refine ⟨?_, fun hx => by simp [hp] at hx⟩
  rcases idle_clock_cases hh hs hp with ⟨phase, u, -, hregs, -, -, -, -, -, hc⟩ | ⟨e, -, hc⟩ | hc <;> rw [hc]
  · simp [hregs]
  · rfl
  · rfl

end Sys2Proof.Machine
end

section
/-! Every instruction's effect by kind, in every state: the clocks it takes and the registers it leaves (R22 to R32,
R134, R352). -/

namespace Sys2Proof.Machine

open Sys2Proof

/-- `i` completes from `s` in its number of clocks and leaves these registers. -/
def Leaves (i : Instr) (s : State) (regs : RegisterFile) : Prop :=
  ∃ slots mem, Completes i s slots regs mem ∧ slots.length = clocksOf i s

theorem addrIzyBase_decodeClock (op : Byte) (e : Entry) (s : State) (p : Byte) :
    (addrIzyBase p (decodeClock op e s)).1 = izyBase p s := by
  simp [addrIzyBase, izyBase, answer, valueAt, Nat.add_assoc]

section Kind

variable {i : Instr} (s : State)

theorem prep_length_read (f : Form) (op : Byte) (e : Entry) :
    (f.prep true op s).length + 1 = f.readClocks (decodeClock op e s) := by
  cases f with
  | imm v | zp p | zpx p | zpy p | abs a | izx p => rfl
  | abx base =>
    by_cases h : hi base = hi (base + zext16 s.regs.x) <;>
      simp [Form.prep, Form.readClocks, Form.ea, fixSlot, samePage_iff, h]
  | aby base =>
    by_cases h : hi base = hi (base + zext16 s.regs.y) <;>
      simp [Form.prep, Form.readClocks, Form.ea, fixSlot, samePage_iff, h]
  | izy p =>
    by_cases h : hi (izyBase p s) = hi (izyBase p s + zext16 s.regs.y) <;>
      simp [Form.prep, Form.readClocks, Form.ea, fixSlot, samePage_iff, addrIzyBase_decodeClock, h]

theorem leaves_read (hk : kindOf i.mnemonic = .read) :
    ∃ ap m n, applyOf i.mnemonic = some ap ∧ Leaves i s (ap m (pcAfter n s)) := by
  obtain ⟨f, ap, hf, ha⟩ := formOf_read hk
  obtain ⟨hm, ho⟩ := formOf_spec hf
  obtain ⟨-, hc⟩ := readsAs_of_form s hk ha hm ho
  refine ⟨ap, _, _, ha, _, _, hc, ?_⟩
  rw [List.length_append, clocksOf_read i.opcode i.entry s hk hf]
  exact prep_length_read s f i.opcode i.entry

theorem leaves_write (hk : kindOf i.mnemonic = .write) : ∃ n, Leaves i s (pcAfter n s) := by
  obtain ⟨f, value, hf, ha⟩ := formOf_write hk
  obtain ⟨hm, ho⟩ := formOf_spec hf
  obtain ⟨-, hc⟩ := writesAs_of_form s hk ha hm ho
  obtain ⟨q, hq, hcycles⟩ := instr_sequence i
  have hw : writeSequence f.mode = some q := hm ▸ (sequenceOf_instr hk).symm.trans hq
  refine ⟨_, _, _, hc, ?_⟩
  rw [clocksOf_plain s (by simp [hk]) (by cases f <;> simp [hm, Form.mode]), hcycles]
  cases f <;> cases hw <;> rfl

/-- The registers after a modify function gave `v` and this carry-out (R169). -/
def modifiedRegs (v : Byte) (cout : Option Bool) (r : RegisterFile) : RegisterFile :=
  { r with z := v == 0#8, n := v.getLsbD 7, c := cout.getD r.c }

theorem leaves_modify (hk : kindOf i.mnemonic = .modify) (hm : i.mode ≠ .acc) :
    ∃ modify m n, modifyOf i.mnemonic = some modify ∧
      Leaves i s (modifiedRegs (modify m s.regs.c).1 (modify m s.regs.c).2 (pcAfter n s)) := by
  obtain ⟨hform, modify, ha⟩ := formOf_modify hk
  obtain ⟨f, hf⟩ := hform.resolve_left hm
  obtain ⟨hmode, ho⟩ := formOf_spec hf
  obtain ⟨-, hc⟩ := modifiesAs_of_form s hk ha hmode ho
  obtain ⟨q, hq, hcycles⟩ := instr_sequence i
  have hw : modifySequence f.mode = some q := hmode ▸ (sequenceOf_instr hk).symm.trans hq
  refine ⟨modify, _, _, ha, _, _, hc, ?_⟩
  rw [clocksOf_plain s (by simp [hk]) (by cases f <;> simp [hmode, Form.mode]), hcycles]
  cases f <;> cases hw <;> rfl

theorem leaves_accumulator (hk : kindOf i.mnemonic = .modify) (hm : i.mode = .acc) :
    ∃ modify, modifyOf i.mnemonic = some modify ∧
      Leaves i s (modifiedRegs (modify s.regs.a s.regs.c).1 (modify s.regs.a s.regs.c).2
        { pcAfter 1 s with a := (modify s.regs.a s.regs.c).1 }) := by
  obtain ⟨-, modify, ha⟩ := formOf_modify hk
  have hq : sequenceOf i.mnemonic i.mode = some .accumulator := by rw [sequenceOf_instr hk, hm]; rfl
  have hc := modifyAcc_completes i.opcode i.entry s modify
  rw [← exec_accumulator s ha hm] at hc
  refine ⟨modify, ha, _, _, hc, ?_⟩
  rw [clocksOf_plain s (by simp [hk]) (by simp [hm]), cycles_of_sequence hq]
  rfl

theorem leaves_implied {f : RegisterFile → RegisterFile} (hk : kindOf i.mnemonic = .other)
    (hq : otherSequence i.mnemonic i.mode = some .implied) (hf : execOf i.mnemonic = some f) :
    Leaves i s (f (pcAfter 1 s)) := by
  have hc := implied_completes i.opcode i.entry s f
  rw [← exec_implied s hf] at hc
  exact ⟨_, _, hc, (clocksOf_other s hk hq (by decide)).symm⟩

theorem leaves_push {value : RegisterFile → Byte} (hk : kindOf i.mnemonic = .other)
    (hq : otherSequence i.mnemonic i.mode = some .push) (hf : storeOf i.mnemonic = some value) :
    Leaves i s { pcAfter 1 s with sp := s.regs.sp - 1#8 } := by
  have hc := pushForm_completes i.opcode i.entry s value
  rw [← exec_push s hk hf] at hc
  exact ⟨_, _, hc, (clocksOf_other s hk hq (by decide)).symm⟩

theorem leaves_pull {ap : Apply} (hk : kindOf i.mnemonic = .other)
    (hq : otherSequence i.mnemonic i.mode = some .pull) (hf : applyOf i.mnemonic = some ap) :
    ∃ v, Leaves i s (ap v { pcAfter 1 s with sp := s.regs.sp + 1#8 }) := by
  have hc := pullForm_completes i.opcode i.entry s ap
  rw [← exec_pull s hk hf] at hc
  exact ⟨_, _, _, hc, (clocksOf_other s hk hq (by decide)).symm⟩

theorem leaves_branch {cond : RegisterFile → Bool} (hf : condOf i.mnemonic = some cond) :
    ∃ pc, Leaves i s { s.regs with pc := pc } := by
  obtain ⟨offset, ho, -⟩ := exec_branch s hf
  obtain ⟨-, hc⟩ := branchesAs_of_cond s hf ho rfl
  refine ⟨_, _, _, hc, ?_⟩
  rw [clocksOf_branch i.opcode i.entry s ho hf]
  simp only [branchSlots, branchClocks, decodeClock_regs, pc_add_one_one, samePage_iff, sext16_eq]
  by_cases ht : cond s.regs = true <;>
    by_cases hp : hi (s.regs.pc + 2#16) = hi (s.regs.pc + 2#16 + offset.signExtend 16) <;> simp [ht, hp]

end Kind

theorem leaves_jmpAbs (target : Addr) (s : State) : Leaves (.jmpAbs target) s { s.regs with pc := target } :=
  ⟨_, _, jmpAbs_completes target s, rfl⟩

theorem leaves_jmpInd (ptr : Addr) (s : State) : ∃ pc, Leaves (.jmpInd ptr) s { s.regs with pc := pc } :=
  ⟨_, _, _, jmpInd_completes ptr s, rfl⟩

theorem leaves_jsr (target : Addr) (s : State) :
    Leaves (.jsr target) s { s.regs with pc := target, sp := s.regs.sp - 2#8 } :=
  ⟨_, _, (jsrPushesItsLastByteAddress s target).2, rfl⟩

theorem leaves_rts (s : State) : ∃ pc, Leaves .rts s { s.regs with pc := pc, sp := s.regs.sp + 2#8 } :=
  ⟨_, _, _, (rtsPullsPcAndAddsOne s).2, rfl⟩

theorem leaves_brk (s : State) : Leaves .brk s (entryRegs irqVector s) :=
  ⟨_, _, (brkEntersThroughTheIrqVector s).2, rfl⟩

theorem leaves_rti (s : State) :
    ∃ p pc, Leaves .rti s (unpackP p { s.regs with pc := pc, sp := s.regs.sp + 3#8 }) :=
  ⟨_, _, _, _, (rtiRestoresFlagsAndPc s).2, rfl⟩

/-! ### Who writes which register and flag -/

/-- The registers and flags that an instruction of this mnemonic and mode leaves alone (R22 to R32). -/
def KeepsUnlisted (mn : Mnemonic) (mode : Mode) (r r' : RegisterFile) : Prop :=
  (mn ∉ [.lda, .pla, .txa, .tya, .adc, .sbc, .and, .ora, .eor] → mode ≠ .acc → r'.a = r.a) ∧
  (mn ∉ [.ldx, .tax, .tsx, .inx, .dex] → r'.x = r.x) ∧
  (mn ∉ [.ldy, .tay, .iny, .dey] → r'.y = r.y) ∧
  (mn ∉ [.txs, .pha, .php, .pla, .plp, .jsr, .rts, .brk, .rti] → r'.sp = r.sp) ∧
  (mn ∉ [.adc, .sbc, .cmp, .cpx, .cpy, .asl, .rol, .lsr, .ror, .clc, .sec, .plp, .rti] → r'.c = r.c) ∧
  (mn ∉ [.adc, .sbc, .bit, .clv, .plp, .rti] → r'.v = r.v) ∧
  (mn ∉ [.sei, .cli, .brk, .plp, .rti] → r'.i = r.i) ∧
  (mn ∉ [.sed, .cld, .plp, .rti] → r'.d = r.d) ∧
  (mn ∈ [.sta, .stx, .sty, .txs, .pha, .php, .bcc, .bcs, .beq, .bne, .bmi, .bpl, .bvc, .bvs, .jmp, .jsr, .rts,
      .clc, .cld, .cli, .clv, .sec, .sed, .sei, .nop, .brk] →
    r'.z = r.z ∧ r'.n = r.n)

section Keeps

variable {mn : Mnemonic} {mode : Mode} (r : RegisterFile)

/-- Writing PC alone keeps every listed register. -/
theorem keepsUnlisted_pc (pc : Addr) : KeepsUnlisted mn mode r { r with pc := pc } := by simp [KeepsUnlisted]

theorem keepsUnlisted_apply {ap : Apply} (hk : kindOf mn = .read) (ha : applyOf mn = some ap) (m : Byte) (pc : Addr) :
    KeepsUnlisted mn mode r (ap m { r with pc := pc }) := by
  cases mn <;> cases hk <;> cases ha <;>
    simp [KeepsUnlisted, applyLda, applyLdx, applyLdy, applyAdc, applySbc, applyAnd, applyOra, applyEor, applyBit,
      applyCmp, applyCpx, applyCpy, compareFlags, setNZ]

theorem keepsUnlisted_pull {ap : Apply} (hk : kindOf mn = .other) (ha : applyOf mn = some ap) (v : Byte) (pc : Addr)
    (sp : Byte) : KeepsUnlisted mn mode r (ap v { r with pc := pc, sp := sp }) := by
  cases mn <;> cases hk <;> cases ha <;> simp [KeepsUnlisted, applyPla, applyPlp, unpackP, setNZ]

theorem keepsUnlisted_push {value : RegisterFile → Byte} (hk : kindOf mn = .other) (ha : storeOf mn = some value)
    (pc : Addr) (sp : Byte) : KeepsUnlisted mn mode r { r with pc := pc, sp := sp } := by
  cases mn <;> cases hk <;> cases ha <;> simp [KeepsUnlisted]

theorem keepsUnlisted_implied {f : RegisterFile → RegisterFile} (ha : execOf mn = some f) (pc : Addr) :
    KeepsUnlisted mn mode r (f { r with pc := pc }) := by
  cases mn <;> cases ha <;>
    simp [KeepsUnlisted, taxExec, tayExec, txaExec, tyaExec, tsxExec, txsExec, inxExec, inyExec, dexExec, deyExec,
      clcExec, cldExec, cliExec, clvExec, secExec, sedExec, seiExec, nopExec, setNZ]

/-- INC and DEC have no carry-out, so they keep C (R169). -/
theorem keepsUnlisted_modify {modify : Modify} (ha : modifyOf mn = some modify) (m : Byte) (c : Bool) (pc : Addr) :
    KeepsUnlisted mn mode r (modifiedRegs (modify m c).1 (modify m c).2 { r with pc := pc }) := by
  cases mn <;> cases ha <;> simp [KeepsUnlisted, modifiedRegs, incModify, decModify]

theorem keepsUnlisted_accumulator {modify : Modify} (ha : modifyOf mn = some modify) (m a : Byte) (c : Bool)
    (pc : Addr) :
    KeepsUnlisted mn .acc r (modifiedRegs (modify m c).1 (modify m c).2 { r with pc := pc, a := a }) := by
  cases mn <;> cases ha <;> simp [KeepsUnlisted, modifiedRegs, incModify, decModify]

end Keeps

/-- Every instruction leaves registers that keep the unlisted ones. -/
theorem exec_keepsUnlisted (i : Instr) (s : State) :
    ∃ regs, Leaves i s regs ∧ KeepsUnlisted i.mnemonic i.mode s.regs regs := by
  cases hk : kindOf i.mnemonic with
  | read =>
    obtain ⟨ap, m, n, ha, h⟩ := leaves_read s hk
    exact ⟨_, h, keepsUnlisted_apply s.regs hk ha m _⟩
  | write =>
    obtain ⟨n, h⟩ := leaves_write s hk
    exact ⟨_, h, keepsUnlisted_pc s.regs _⟩
  | modify =>
    by_cases hm : i.mode = .acc
    · obtain ⟨modify, ha, h⟩ := leaves_accumulator s hk hm
      exact ⟨_, h, hm ▸ keepsUnlisted_accumulator s.regs ha _ _ _ _⟩
    · obtain ⟨modify, m, n, ha, h⟩ := leaves_modify s hk hm
      exact ⟨_, h, keepsUnlisted_modify s.regs ha _ _ _⟩
  | other =>
    obtain ⟨hq, f, ha⟩ | ⟨hq, cond, ha⟩ | ⟨hq, value, ha⟩ | ⟨hq, ap, ha⟩ | ⟨a, rfl⟩ | ⟨a, rfl⟩ | ⟨a, rfl⟩ | rfl | rfl |
      rfl := other_cases hk
    · exact ⟨_, leaves_implied s hk hq ha, keepsUnlisted_implied s.regs ha _⟩
    · obtain ⟨pc, h⟩ := leaves_branch s ha
      exact ⟨_, h, keepsUnlisted_pc s.regs pc⟩
    · exact ⟨_, leaves_push s hk hq ha, keepsUnlisted_push s.regs hk ha _ _⟩
    · obtain ⟨v, h⟩ := leaves_pull s hk hq ha
      exact ⟨_, h, keepsUnlisted_pull s.regs hk ha v _ _⟩
    · exact ⟨_, leaves_jmpAbs a s, keepsUnlisted_pc s.regs a⟩
    · obtain ⟨pc, h⟩ := leaves_jmpInd a s
      exact ⟨_, h, keepsUnlisted_pc s.regs pc⟩
    · exact ⟨_, leaves_jsr a s, by simp [KeepsUnlisted, Instr.mnemonic]⟩
    · obtain ⟨pc, h⟩ := leaves_rts s
      exact ⟨_, h, by simp [KeepsUnlisted, Instr.mnemonic]⟩
    · exact ⟨_, leaves_brk s, by simp [KeepsUnlisted, Instr.mnemonic, entryRegs]⟩
    · obtain ⟨p, pc, h⟩ := leaves_rti s
      exact ⟨_, h, by simp [KeepsUnlisted, Instr.mnemonic, unpackP]⟩

/-- What completing says of the fields that every instruction treats alike. -/
theorem exec_next (i : Instr) (s : State) :
    ∃ t, exec i s = .next t ∧ t.seq.phase = .idle ∧ t.seq.t = clocksOf i s ∧ t.bus.now = s.bus.now + clocksOf i s ∧
      t.halted = s.halted := by
  obtain ⟨regs, ⟨slots, mem, ⟨t, ht, -, -, hp, hn, hbus, -, -, -, hh, -⟩, hlen⟩, -⟩ := exec_keepsUnlisted i s
  exact ⟨t, ht, hp, hn.trans hlen, by rw [hbus, hlen], hh⟩

/-- Settles O52: the registers an instruction leaves are known by kind, and each mnemonic's function writes those on
its lists. -/
theorem onlyTheListedInstructionsWrite : Obligations.OnlyTheListedInstructionsWrite := by
  intro i s t ht
  obtain ⟨regs, ⟨slots, mem, hc, -⟩, hkeeps⟩ := exec_keepsUnlisted i s
  obtain ⟨hregs, -⟩ := EndsWith.of_next hc ht
  exact hregs ▸ hkeeps

end Sys2Proof.Machine
end

section
/-! Interrupt sequences clock by clock (R131, R302): `takeNmi` and `takeIrq` are seven clocks, and so every step is one
to seven clocks. -/

namespace Sys2Proof.Machine

open Sys2Proof

/-- An interrupt sequence of this phase is in flight after its `k`-th clock: running, not stalled, the level polled. -/
structure InSequence (phase : Phase) (k : Nat) (s : State) : Prop where
  halted : s.halted = none
  stall : s.stallCycles = 0
  phase : s.seq.phase = phase
  t : s.seq.t = k
  polled : s.latches.irqLineAsserted = s.irqIn

/-- The vector that a sequence of this phase loads (R300). -/
def Vectors (phase : Phase) (vec : Addr) : Prop :=
  phase = .nmiSeq ∧ vec = nmiVector ∨ phase = .irqSeq ∧ vec = irqVector

section Chain

variable {phase : Phase} {vec : Addr} {s0 s s' : State} {k : Nat} {row : State → State}

theorem InSequence.clock_eq (hv : Vectors phase vec) (h : InSequence phase (k + 1) s)
    (hr : (interruptRows vec)[k]? = some row) : clock s = row s := by
  have hp : s.seq.phase ≠ .idle := by
    rw [h.phase]
    rcases hv with ⟨rfl, -⟩ | ⟨rfl, -⟩ <;> exact nofun
  have hrow := rowInterrupt_eq hr h.t
  rw [clock_inFlight h.halted h.stall hp, poll_eq_self h.polled, microStep, h.phase]
  rcases hv with ⟨rfl, rfl⟩ | ⟨rfl, rfl⟩ <;> exact hrow

theorem InSequence.next (h : InSequence phase k s) (hc : Continues s s') : InSequence phase (k + 1) s' := by
  obtain ⟨hh, hs, hp, ht, -, -, hl⟩ := hc
  exact ⟨hh.trans h.halted, hs.trans h.stall, hp.trans h.phase, by rw [ht, h.t], hl⟩

/-- The first `k` clocks from `s0` reach `s`, in an interrupt sequence of this phase. -/
structure InterruptReached (phase : Phase) (s0 : State) (k : Nat) (s : State) : Prop where
  now : InSequence phase k s
  state : clocks k s0 = s

theorem InterruptReached.finish (hv : Vectors phase vec) (h : InterruptReached phase s0 (k + 1) s)
    (hr : (interruptRows vec)[k]? = some row) (hs : row s = s') : clocks (k + 2) s0 = s' := by
  rw [clocks_succ_last, h.state, h.now.clock_eq hv hr, hs]

theorem InterruptReached.step (hv : Vectors phase vec) (h : InterruptReached phase s0 (k + 1) s)
    (hr : (interruptRows vec)[k]? = some row) (hs : row s = s') (hc : Continues s s') :
    InterruptReached phase s0 (k + 2) s' :=
  ⟨h.now.next hc, h.finish hv hr hs⟩

/-- T2 to T7 after the first clock of a sequence (R302). -/
theorem clocks_interruptSequence (hv : Vectors phase vec)
    (h : InterruptReached phase s0 1 (dummyRead s.regs.pc (beginInterrupt phase s))) :
    clocks 7 s0 = interruptSequence phase vec s := by
  have h2 := h.step hv rfl rfl (by simp [Continues, rowDummyPc])
  have h3 := h2.step hv rfl rfl (by simp [Continues, rowPushPcHigh])
  have h4 := h3.step hv rfl rfl (by simp [Continues, rowPushPcLow])
  have h5 := h4.step hv rfl rfl (by simp [Continues, rowPushStatus])
  have h6 := h5.step hv rfl rfl (by simp [Continues, vectorLow])
  exact h6.finish hv rfl (by rw [rowVectorHigh, withTemp_eq rfl]; rfl)

end Chain

/-- T1 of a sequence: the arbiter's clock makes the first dummy read, and the poll before it is the clock's own. -/
theorem interruptReached_first {phase : Phase} {s0 s : State} (hh : s.halted = none) (hs : s.stallCycles = 0)
    (hc : clock s0 = dummyRead s.regs.pc (beginInterrupt phase (poll s))) :
    InterruptReached phase s0 1 (dummyRead s.regs.pc (beginInterrupt phase s)) := by
  have hpoll : dummyRead s.regs.pc (beginInterrupt phase (poll s)) = dummyRead s.regs.pc (beginInterrupt phase s) :=
    dummyRead_poll s.regs.pc (beginInterrupt phase s)
  exact ⟨⟨by simpa using hh, by simpa using hs, by simp, by simp, by simp⟩, hc.trans hpoll⟩

section Taken

variable {s : State} (hh : s.halted = none) (hs : s.stallCycles = 0) (hp : s.seq.phase = .idle)

include hh hs hp

theorem clocks_takeNmi (hn : s.latches.nmiPending = true) : clocks 7 s = takeNmi s := by
  have hc := clock_nmi hh hs hp hn
  rw [microStep_beginInterrupt (.inl rfl)] at hc
  exact clocks_interruptSequence (.inl ⟨rfl, rfl⟩)
    (interruptReached_first (s := { s with latches := { s.latches with nmiPending := false } }) hh hs hc)

theorem clocks_takeIrq (hn : s.latches.nmiPending = false) (hi : (s.irqIn && !s.regs.i) = true) :
    clocks 7 s = takeIrq s := by
  have hc := clock_irq hh hs hp hn hi
  rw [microStep_beginInterrupt (.inr rfl)] at hc
  exact clocks_interruptSequence (.inr ⟨rfl, rfl⟩) (interruptReached_first hh hs hc)

end Taken

/-! ### How many clocks -/

/-- The bounds of R134 and R352 for an instruction of table count `cycles` in a mode: one extra clock, or two for a
branch, and never more than seven. -/
def ClockBounds (cycles : Nat) (mode : Mode) (n : Nat) : Prop :=
  2 ≤ n ∧ n ≤ 7 ∧ cycles ≤ n ∧ n ≤ cycles + if mode = .rel then 2 else 1

theorem baseClocks_bounds (q : Sequence) : 2 ≤ q.baseClocks ∧ q.baseClocks ≤ 7 := by cases q <;> decide

theorem clockBounds_baseClocks (q : Sequence) (mode : Mode) : ClockBounds q.baseClocks mode q.baseClocks := by
  obtain ⟨hlo, hhi⟩ := baseClocks_bounds q
  exact ⟨hlo, hhi, le_rfl, Nat.le_add_right _ _⟩

theorem clockBounds_readClocks {f : Form} {q : Sequence} (hq : readSequence f.mode = some q) (s : State) :
    ClockBounds q.baseClocks f.mode (f.readClocks s) := by
  cases f with
  | abx base | aby base | izy p =>
    cases hq
    simp only [Form.readClocks]
    split <;> simp [ClockBounds, Form.mode, Sequence.baseClocks]
  | _ =>
    cases hq
    simp [ClockBounds, Form.readClocks, Form.mode, Sequence.baseClocks]

theorem clockBounds_branchClocks (taken : Bool) (offset : Byte) (s : State) :
    ClockBounds 2 .rel (branchClocks taken offset s) := by
  simp only [branchClocks]
  split
  · split <;> simp [ClockBounds]
  · simp [ClockBounds]

/-- The instructions in relative mode are the branches (R98). -/
theorem condOf_of_rel {i : Instr} (hm : i.mode = .rel) : ∃ cond, condOf i.mnemonic = some cond := by
  cases i <;> cases hm <;> exact ⟨_, rfl⟩

theorem clocksOf_bounds (i : Instr) (s : State) : ClockBounds i.cycles i.mode (clocksOf i s) := by
  obtain ⟨q, hq, hc⟩ := instr_sequence i
  by_cases hk : kindOf i.mnemonic = .read
  · obtain ⟨f, -, hf, -⟩ := formOf_read hk
    obtain ⟨hm, -⟩ := formOf_spec hf
    have hread : readSequence f.mode = some q := hm ▸ (sequenceOf_instr hk).symm.trans hq
    rw [clocksOf_read i.opcode i.entry s hk hf, hm, hc]
    exact clockBounds_readClocks hread _
  by_cases hm : i.mode = .rel
  · obtain ⟨cond, hcond⟩ := condOf_of_rel hm
    obtain ⟨offset, ho, -⟩ := exec_branch s hcond
    rw [clocksOf_branch i.opcode i.entry s ho hcond, hm, (branch_mode hcond).2]
    exact clockBounds_branchClocks _ offset _
  · rw [clocksOf_plain s hk hm, hc]
    exact clockBounds_baseClocks q i.mode

/-! ### The obligation -/

/-- Settles O47: a whole interrupt sequence is seven clocks and a whole instruction as many as it takes; every other
step is one clock. -/
theorem stepIsAtMostSevenClocks : Obligations.StepIsAtMostSevenClocks := by
  intro s
  cases hh : s.halted with
  | some f => exact ⟨1, le_rfl, by decide, by rw [step_halted hh, clocks_halted hh, outcomeOf_halted hh]⟩
  | none =>
  by_cases hs : s.stallCycles = 0
  case neg =>
    refine ⟨1, le_rfl, by decide, ?_⟩
    rw [step_stalled hh hs, clocks_succ, clock_stalled hh hs]
    exact (outcomeOf_running (s := stalledClock s) hh).symm
  by_cases hp : s.seq.phase = .idle
  case neg => exact ⟨1, le_rfl, by decide, step_inFlight hh hs hp⟩
  cases hn : s.latches.nmiPending
  case true =>
    refine ⟨7, by decide, le_rfl, ?_⟩
    have hrun : (takeNmi s).halted = none := by
      obtain ⟨t, ht, -, -, -, -, -, -, -, -, hhalted, -⟩ := takeNmi_completes s
      exact (congrArg State.halted (Host.Outcome.next.inj ht)).trans (hhalted.trans hh)
    rw [step_nmi hh hs hp hn, clocks_takeNmi hh hs hp hn, outcomeOf_running hrun]
  cases hi : s.irqIn && !s.regs.i
  case true =>
    refine ⟨7, by decide, le_rfl, ?_⟩
    have hrun : (takeIrq s).halted = none := by
      obtain ⟨t, ht, -, -, -, -, -, -, -, -, hhalted, -⟩ := takeIrq_completes s
      exact (congrArg State.halted (Host.Outcome.next.inj ht)).trans (hhalted.trans hh)
    rw [step_irq hh hs hp hn hi, clocks_takeIrq hh hs hp hn hi, outcomeOf_running hrun]
  have hr : Ready s := ⟨hh, hs, hp, hn, hi⟩
  cases he : lookup (instrByte 0 s) with
  | none =>
    refine ⟨1, le_rfl, by decide, ?_⟩
    rw [step_of_unknown hr he]
    exact (outcomeOf_halted (clock_of_unknown hr he)).symm
  | some e =>
    obtain ⟨i, rest, hd, -⟩ := decode_of_lookup he
    obtain ⟨hlo, hhi, -⟩ := clocksOf_bounds i s
    obtain ⟨-, hexec⟩ := execIsItsClocks s i rest hr hd
    refine ⟨clocksOf i s, by omega, hhi, ?_⟩
    obtain ⟨t, ht, -, -, -, hhalted⟩ := exec_next i s
    have hrun : (clocks (clocksOf i s) s).halted = none :=
      (congrArg State.halted (Host.Outcome.next.inj (hexec.symm.trans ht))).trans (hhalted.trans hh)
    rw [stepRunsTheFetchedInstruction s i rest hr hd, hexec, outcomeOf_running hrun]

end Sys2Proof.Machine
end

section
/-! The invariant is kept (R39, R42, R172): each row sets the latches that the next row of its table needs, and an
instruction that goes on stands at that next row; so every clock, and every step, keeps the invariant. -/

namespace Sys2Proof.Machine

open Sys2Proof

theorem wf_iff {s : State} :
    s.wf = true ↔ Memory.wf s.mem = true ∧ s.seq.wf = true ∧ s.config.stallFits s.stallCycles = true ∧
      s.config.wf = true := by
  simp only [State.wf, Bool.and_eq_true, and_assoc]

/-! ### What a row hands to the next -/

/-- The part of a need that the latches meet; the page-cross indication is apart. -/
def Need.latches (need : Need) : Need := { need with crossed := none }

/-- Every latch that `next` reads is read by `need` or among `set`. -/
def Need.coveredBy (next need set : Need) : Bool :=
  (!next.ea || need.ea || set.ea) && (!next.operand || need.operand || set.operand) &&
    (!next.temp || need.temp || set.temp)

theorem meets_nothing (c : SeqState) : Meets .nothing c := ⟨nofun, nofun, nofun, nofun⟩

theorem meets_address {c : SeqState} (h : c.effectiveAddress.isSome = true) : Meets .address c :=
  ⟨fun _ => h, nofun, nofun, nofun⟩

theorem meets_data {c : SeqState} (h : c.operand.isSome = true) : Meets .data c := ⟨nofun, fun _ => h, nofun, nofun⟩

theorem meets_second {c : SeqState} (h : c.tempLatch.isSome = true) : Meets .second c :=
  ⟨nofun, nofun, fun _ => h, nofun⟩

theorem meets_bothData {c : SeqState} (hv : c.operand.isSome = true) (ht : c.tempLatch.isSome = true) :
    Meets .bothData c :=
  ⟨nofun, fun _ => hv, fun _ => ht, nofun⟩

/-- A row that, with its function and latches, leaves these latches set. -/
def Gives (q : Sequence) (need : Need) (row : State → State) (given : Need) : Prop :=
  ∀ s, q.hasFunction s.seq.mnemonic = true → Meets need s.seq → Meets given (row s).seq

section Gives

variable {q : Sequence} {need set next : Need} {row : State → State}

/-- A row keeps the latches that were set, so it gives them along with those it sets. -/
theorem Gives.covers (hset : Gives q need row set) (hframe : ∀ s, RowFrame s (row s))
    (hcov : next.coveredBy need set = true) : Gives q need row next.latches := by
  intro s hf hm
  obtain ⟨ha, hv, ht, -⟩ := hset s hf hm
  have hrow := hframe s
  simp only [Need.coveredBy, Bool.and_eq_true, Bool.or_eq_true, Bool.not_eq_true', or_assoc] at hcov
  obtain ⟨⟨hca, hcv⟩, hct⟩ := hcov
  refine ⟨fun h => ?_, fun h => ?_, fun h => ?_, nofun⟩
  · have h : next.ea = true := h
    exact (hca.resolve_left (by simp [h])).elim (fun hn => hrow.ea (hm.ea hn)) ha
  · have h : next.operand = true := h
    exact (hcv.resolve_left (by simp [h])).elim (fun hn => hrow.operand (hm.operand hn)) hv
  · have h : next.temp = true := h
    exact (hct.resolve_left (by simp [h])).elim (fun hn => hrow.temp (hm.temp hn)) ht

/-- A row whose successor reads no latch that it did not read itself. -/
theorem gives_kept (hframe : ∀ s, RowFrame s (row s)) (hcov : next.coveredBy need .nothing = true) :
    Gives q need row next.latches :=
  Gives.covers (fun _ _ _ => meets_nothing _) hframe hcov

theorem gives_fetchZp (hcov : next.coveredBy need .address = true) : Gives q need rowFetchZp next.latches :=
  Gives.covers (fun _ _ _ => meets_address rfl) @rowFetchZp_frame hcov

theorem gives_fetchOperand (hcov : next.coveredBy need .data = true) : Gives q need rowFetchOperand next.latches :=
  Gives.covers (fun _ _ _ => meets_data rfl) @rowFetchOperand_frame hcov

theorem gives_fetchTemp (hcov : next.coveredBy need .second = true) : Gives q need rowFetchTemp next.latches :=
  Gives.covers (fun _ _ _ => meets_second rfl) @rowFetchTemp_frame hcov

theorem gives_rtsLow (hcov : next.coveredBy need .second = true) : Gives q need rtsLow next.latches :=
  Gives.covers (fun _ _ _ => meets_second rfl) @rtsLow_frame hcov

theorem gives_vectorLow (vec : Addr) (hcov : next.coveredBy need .second = true) :
    Gives q need (vectorLow vec) next.latches :=
  Gives.covers (fun _ _ _ => meets_second rfl) (fun _ => vectorLow_frame vec) hcov

theorem gives_rtiStatus (hcov : next.coveredBy need .data = true) : Gives q need rtiStatus next.latches :=
  Gives.covers (fun _ _ _ => meets_data rfl) @rtiStatus_frame hcov

theorem gives_pointerLow (hv : need.operand = true) (hcov : next.coveredBy need .address = true) :
    Gives q need rowPointerLow next.latches := by
  refine Gives.covers (fun s _ hm => meets_address ?_) @rowPointerLow_frame hcov
  obtain ⟨v, hv⟩ := Option.isSome_iff_exists.mp (hm.operand hv)
  rw [rowPointerLow, withOperand_eq hv]
  rfl

theorem gives_rmwRead (ha : need.ea = true) (hcov : next.coveredBy need .bothData = true) :
    Gives q need rowRmwRead next.latches := by
  refine Gives.covers (fun s _ hm => ?_) @rowRmwRead_frame hcov
  obtain ⟨a, ha⟩ := Option.isSome_iff_exists.mp (hm.ea ha)
  rw [rowRmwRead, withEa_eq ha]
  exact meets_bothData rfl rfl

theorem gives_jumpLow (ha : need.ea = true) (hcov : next.coveredBy need .second = true) :
    Gives q need rowJumpLow next.latches := by
  refine Gives.covers (fun s _ hm => meets_second ?_) @rowJumpLow_frame hcov
  obtain ⟨a, ha⟩ := Option.isSome_iff_exists.mp (hm.ea ha)
  rw [rowJumpLow, withEa_eq ha]
  rfl

theorem gives_branchFetch (hcov : next.coveredBy need .data = true) :
    Gives .branch need rowBranchFetch next.latches := by
  refine Gives.covers (fun s hf _ => meets_data ?_) @rowBranchFetch_frame hcov
  obtain ⟨cond, hcond⟩ := Option.isSome_iff_exists.mp hf
  rw [rowBranchFetch_eq hcond rfl]
  split <;> rfl

theorem gives_branchTake (hv : need.operand = true) (hcov : next.coveredBy need .second = true) :
    Gives q need rowBranchTake next.latches := by
  refine Gives.covers (fun s _ hm => meets_second ?_) @rowBranchTake_frame hcov
  obtain ⟨offset, hoffset⟩ := Option.isSome_iff_exists.mp (hm.operand hv)
  rw [rowBranchTake_eq hoffset]
  split <;> rfl

end Gives

/-! ### The tables hand on -/

/-- Rows of which each gives the latches that the next one needs. -/
inductive Feeds (q : Sequence) : List Need → List (State → State) → Prop where
  | last {need row} : Feeds q [need] [row]
  | cons {need next row needs rows} (h : Gives q need row next.latches) (rest : Feeds q (next :: needs) rows) :
      Feeds q (need :: next :: needs) (row :: rows)

theorem Feeds.row {q : Sequence} {needs : List Need} {rows : List (State → State)} (h : Feeds q needs rows) {n : Nat}
    {need next : Need} (hn : needs[n]? = some need) (hnext : needs[n + 1]? = some next) :
    ∃ row, rows[n]? = some row ∧ Gives q need row next.latches := by
  induction h generalizing n with
  | last => cases hnext
  | cons h rest ih =>
    rcases n with _ | n
    · cases hn
      cases hnext
      exact ⟨_, rfl, h⟩
    · exact ih hn hnext

section Tables

variable {q : Sequence}

theorem feeds_rmw : Feeds q [.address, .every, .every] rmwRows :=
  .cons (gives_rmwRead rfl rfl) <| .cons (gives_kept @rowRmwApply_frame rfl) .last

theorem feeds_entry (vec : Addr) (brk : Bool) :
    Feeds q [.nothing, .nothing, .nothing, .nothing, .second] (entryRows vec brk) :=
  .cons (gives_kept (fun _ => push_frame _) rfl) <| .cons (gives_kept (fun _ => push_frame _) rfl) <|
  .cons (gives_kept (fun _ => push_frame _) rfl) <| .cons (gives_vectorLow vec rfl) .last

theorem feeds_rowsOf (q : Sequence) : Feeds q (rowNeeds q) (rowsOf q) := by
  cases q with
  | implied | accumulator | immediate => exact .last
  | zpR | zpW => exact .cons (gives_fetchZp rfl) .last
  | zpM => exact .cons (gives_fetchZp rfl) feeds_rmw
  | zpIndexedR | zpIndexedW => exact .cons (gives_fetchZp rfl) <| .cons (gives_kept @rowIndexZp_frame rfl) .last
  | zpIndexedM => exact .cons (gives_fetchZp rfl) <| .cons (gives_kept @rowIndexZp_frame rfl) feeds_rmw
  | absR | absW => exact .cons (gives_fetchZp rfl) <| .cons (gives_kept @rowFetchHigh_frame rfl) .last
  | absM => exact .cons (gives_fetchZp rfl) <| .cons (gives_kept @rowFetchHigh_frame rfl) feeds_rmw
  | absIndexedR =>
    exact .cons (gives_fetchZp rfl) <| .cons (gives_kept @rowFetchHighChecked_frame rfl) <|
      .cons (gives_kept (fun _ => rowFixupOrRead_frame fun _ => rowRead_frame) rfl) .last
  | absIndexedW =>
    exact .cons (gives_fetchZp rfl) <| .cons (gives_kept @rowFetchHighChecked_frame rfl) <|
      .cons (gives_kept @rowFixup_frame rfl) .last
  | absIndexedM =>
    exact .cons (gives_fetchZp rfl) <| .cons (gives_kept @rowFetchHighChecked_frame rfl) <|
      .cons (gives_kept @rowFixup_frame rfl) feeds_rmw
  | izxR | izxW =>
    exact .cons (gives_fetchOperand rfl) <| .cons (gives_kept @rowIzxIndex_frame rfl) <|
      .cons (gives_pointerLow rfl rfl) <| .cons (gives_kept @rowPointerHigh_frame rfl) .last
  | izyR =>
    exact .cons (gives_fetchOperand rfl) <| .cons (gives_pointerLow rfl rfl) <|
      .cons (gives_kept @rowPointerHighChecked_frame rfl) <|
      .cons (gives_kept (fun _ => rowFixupOrRead_frame fun _ => rowReadLocal_frame) rfl) .last
  | izyW =>
    exact .cons (gives_fetchOperand rfl) <| .cons (gives_pointerLow rfl rfl) <|
      .cons (gives_kept @rowPointerHighChecked_frame rfl) <| .cons (gives_kept @rowFixup_frame rfl) .last
  | branch => exact .cons (gives_branchFetch rfl) <| .cons (gives_branchTake rfl rfl) .last
  | jmpAbs => exact .cons (gives_fetchTemp rfl) .last
  | jmpInd =>
    exact .cons (gives_fetchZp rfl) <| .cons (gives_kept @rowFetchHigh_frame rfl) <|
      .cons (gives_jumpLow rfl rfl) .last
  | jsr =>
    exact .cons (gives_fetchTemp rfl) <| .cons (gives_fetchOperand rfl) <|
      .cons (gives_kept @jsrBack_frame rfl) <| .cons (gives_kept (fun _ => push_frame _) rfl) .last
  | rts =>
    exact .cons (gives_kept @rowDummyPc_frame rfl) <| .cons (gives_kept @pullDummy_frame rfl) <|
      .cons (gives_rtsLow rfl) <| .cons (gives_kept @rowRtsHigh_frame rfl) .last
  | push => exact .cons (gives_kept @rowDummyPc_frame rfl) .last
  | pull => exact .cons (gives_kept @rowDummyPc_frame rfl) <| .cons (gives_kept @pullDummy_frame rfl) .last
  | brk => exact .cons (gives_kept @brkSkip_frame rfl) (feeds_entry irqVector true)
  | rti =>
    exact .cons (gives_kept @rowDummyPc_frame rfl) <| .cons (gives_kept @pullDummy_frame rfl) <|
      .cons (gives_rtiStatus rfl) <| .cons (gives_rtsLow rfl) .last

theorem feeds_interrupt (vec : Addr) : Feeds .brk (rowNeeds .brk) (interruptRows vec) :=
  .cons (gives_kept @rowDummyPc_frame rfl) (feeds_entry vec false)

end Tables

/-! ### An instruction in flight stands at its next row -/

/-- The clock from `s` to `s'` ends the instruction, or leaves it at the next row of its table, with the page-cross
indication that the row is there for. -/
def Advances (q : Sequence) (n : Nat) (s s' : State) : Prop :=
  s'.seq.phase = .idle ∨
    ∃ next c, (rowNeeds q)[n + 1]? = some next ∧ Counts s s' .exec c ∧ ∀ b, next.crossed = some b → c = b

theorem rowNeeds_crossed {q : Sequence} (hq : q.canExtend = false) {n : Nat} {need : Need}
    (hn : (rowNeeds q)[n]? = some need) : need.crossed = none := by
  have key : ∀ need ∈ rowNeeds q, need.crossed = none := by
    cases q with
    | absIndexedR | izyR | branch => cases hq
    | _ => decide
  exact key need (List.mem_of_getElem? hn)

theorem rowNeeds_length (q : Sequence) : (rowNeeds q).length = (rowsOf q).length := by cases q <;> rfl

section Advance

variable {q : Sequence} {n : Nat} {need next : Need} {s s' : State} {row : State → State}

/-- A sequence that earns no extension. -/
theorem Standing.plain_advances (h : Standing q n need s) (hh : s.halted = none) (hs : s.stallCycles = 0)
    (hq : q.canExtend = false) : Advances q n s (clock s) := by
  obtain ⟨row, hr, hrow⟩ := (countsDown_rowsOf q hq).row h.row
  rw [h.clock_eq hh hs hr]
  rcases hrow with ⟨-, hends⟩ | ⟨hmore, hstays⟩
  · obtain ⟨c, -, -, -, -, hp, -⟩ := hends (poll s) h.function h.meets
    exact .inl hp
  · obtain ⟨c, hc⟩ := hstays (poll s) h.function h.meets
    rw [poll_seq, h.phase] at hc
    rw [← rowNeeds_length] at hmore
    have hnext := List.getElem?_eq_getElem hmore
    exact .inr ⟨_, c, hnext, hc, by simp [rowNeeds_crossed hq hnext]⟩

theorem Standing.goes_advances (h : Standing q n need s) (hnext : (rowNeeds q)[n + 1]? = some next)
    (hc : ∀ b, next.crossed = some b → s.seq.crossed = b) (hrow : Counts s s' s.seq.phase s.seq.crossed) :
    Advances q n s s' :=
  .inr ⟨next, _, hnext, h.phase ▸ hrow, hc⟩

/-- After the page-cross check the next row stands whether a page was crossed or not. -/
theorem Standing.check_advances (h : Standing q n need s) (hnext : (rowNeeds q)[n + 1]? = some next)
    (hc : next.crossed = none) (hrow : ∃ c, Counts s s' s.seq.phase c) : Advances q n s s' := by
  obtain ⟨c, hrow⟩ := hrow
  exact .inr ⟨next, c, hnext, h.phase ▸ hrow, by simp [hc]⟩

theorem counts_idle_advances {c : Bool} (hrow : Counts s s' .idle c) : Advances q n s s' := by
  obtain ⟨-, -, -, -, hp, -⟩ := hrow
  exact .inl hp

/-- The row after the check goes on to the last row when a page was crossed, and reads and ends otherwise (R153). -/
theorem Standing.fixupOrRead_advances (h : Standing q n need s)
    (hnext : (rowNeeds q)[n + 1]? = some (Need.afterCross .address)) (ha : s.seq.effectiveAddress.isSome = true)
    (hrow : ∀ a, Counts (setEa a s) (row (setEa a s)) .idle s.seq.crossed) :
    Advances q n s (rowFixupOrRead row s) := by
  rw [rowFixupOrRead]
  split
  · next hc =>
    refine h.goes_advances hnext ?_ (rowFixup_counts ha)
    rintro b ⟨⟩
    exact hc
  · exact counts_idle_advances (withEa_counts ha fun _ => hrow _)

/-- The row that exists only after a page cross ends the instruction. -/
theorem afterFixup_advances (hc : s.seq.crossed = true) (hrow : Counts s (row s) .idle s.seq.crossed) :
    Advances q n s (rowAfterFixup row s) := by
  rw [rowAfterFixup, if_pos hc]
  exact counts_idle_advances hrow

theorem Standing.indexed_advances (h : Standing q n need s) (hh : s.halted = none) (hs : s.stallCycles = 0)
    (hq : q = .absIndexedR ∨ q = .izyR) : Advances q n s (clock s) := by
  have hp : Standing q n need (poll s) := h.afterPoll
  have hrow := h.row
  have hf := h.function
  obtain ⟨ha, hv, -, hc⟩ := h.meets
  rcases hq with rfl | rfl
  · match n, hrow with
    | 0, rfl => exact h.clock_eq hh hs rfl ▸ hp.goes_advances rfl hc rowFetchZp_counts
    | 1, rfl => exact h.clock_eq hh hs rfl ▸ hp.check_advances rfl rfl (rowFetchHighChecked_counts (ha rfl))
    | 2, rfl => exact h.clock_eq hh hs rfl ▸ hp.fixupOrRead_advances rfl (ha rfl) fun a => rowRead_counts rfl hf
    | 3, rfl => exact h.clock_eq hh hs rfl ▸ afterFixup_advances (hc true rfl) (rowRead_counts (ha rfl) hf)
  · match n, hrow with
    | 0, rfl => exact h.clock_eq hh hs rfl ▸ hp.goes_advances rfl hc rowFetchOperand_counts
    | 1, rfl => exact h.clock_eq hh hs rfl ▸ hp.goes_advances rfl hc (rowPointerLow_counts (hv rfl))
    | 2, rfl =>
      exact h.clock_eq hh hs rfl ▸ hp.check_advances rfl rfl (rowPointerHighChecked_counts (ha rfl) (hv rfl))
    | 3, rfl => exact h.clock_eq hh hs rfl ▸ hp.fixupOrRead_advances rfl (ha rfl) fun a => rowReadLocal_counts rfl hf
    | 4, rfl => exact h.clock_eq hh hs rfl ▸ afterFixup_advances (hc true rfl) (rowReadLocal_counts (ha rfl) hf)

theorem Standing.branch_advances (h : Standing .branch n need s) (hh : s.halted = none) (hs : s.stallCycles = 0) :
    Advances .branch n s (clock s) := by
  have hrow := h.row
  have hc := h.meets.crossed
  rcases h.branch_clock hh hs with ⟨rfl, -, hcounts⟩ | ⟨rfl, hcounts⟩ | ⟨hcounts, -⟩
  · cases hrow
    exact .inr ⟨_, _, rfl, hcounts, hc⟩
  · refine .inr ⟨_, _, rfl, hcounts, ?_⟩
    rintro b ⟨⟩
    rfl
  · exact counts_idle_advances hcounts

theorem Standing.advances (h : Standing q n need s) (hh : s.halted = none) (hs : s.stallCycles = 0) :
    Advances q n s (clock s) := by
  by_cases hq : q.canExtend = false
  · exact h.plain_advances hh hs hq
  by_cases hb : q = .branch
  · subst hb
    exact h.branch_advances hh hs
  · exact h.indexed_advances hh hs (by cases q <;> simp_all [Sequence.canExtend])

/-! ### The sequencer's invariant -/

theorem meets_of_latches {q : SeqState} (h : Meets need.latches q) (hc : ∀ c, need.crossed = some c → q.crossed = c) :
    q.meets need = true := by
  obtain ⟨ha, hv, ht, -⟩ := h
  simp only [SeqState.meets, Bool.and_eq_true, Bool.or_eq_true, Bool.not_eq_true', Option.all_eq_true, beq_iff_eq]
  refine ⟨⟨⟨?_, ?_⟩, ?_⟩, hc⟩
  · exact (Bool.eq_false_or_eq_true need.ea).symm.imp_right ha
  · exact (Bool.eq_false_or_eq_true need.operand).symm.imp_right hv
  · exact (Bool.eq_false_or_eq_true need.temp).symm.imp_right ht

theorem execReady_of_row {c : SeqState} (htable : tableCycles c.mnemonic c.mode = some c.baseCycles)
    (hq : sequenceOf c.mnemonic c.mode = some q) (ht : c.t = n + 1) (hn : (rowNeeds q)[n]? = some need)
    (hm : c.meets need = true) : c.execReady = true := by
  simp [SeqState.execReady, htable, hq, ht, hn, hm]

theorem tableCycles_of_execReady {c : SeqState} (h : c.execReady = true) :
    tableCycles c.mnemonic c.mode = some c.baseCycles := by
  simp only [SeqState.execReady, Bool.and_eq_true, beq_iff_eq] at h
  exact h.1

theorem seq_wf_of_idle {c : SeqState} (h : c.phase = .idle) : c.wf = true := by simp only [SeqState.wf, h]

theorem seq_wf_of_exec {c : SeqState} (hp : c.phase = .exec) (h : c.execReady = true) : c.wf = true := by
  simpa only [SeqState.wf, hp] using h

theorem seq_wf_of_interrupt {c : SeqState} (hp : c.phase = .nmiSeq ∨ c.phase = .irqSeq) (h : c.interruptReady = true) :
    c.wf = true := by
  rcases hp with hp | hp <;> simpa only [SeqState.wf, hp] using h

/-- A clock of an instruction in flight keeps the sequencer consistent (R39). -/
theorem exec_clock_seq_wf (hh : s.halted = none) (hs : s.stallCycles = 0) (hp : s.seq.phase = .exec)
    (hw : s.seq.execReady = true) : (clock s).seq.wf = true := by
  obtain ⟨q, n, need, h⟩ := standing_of_execReady hp hw
  rcases h.advances hh hs with hidle | ⟨next, c, hnext, ⟨ht, hmn, hmode, hbase, hphase, hcrossed⟩, hc⟩
  · exact seq_wf_of_idle hidle
  · obtain ⟨row, hr, hgives⟩ := (feeds_rowsOf q).row h.row hnext
    have hlatches : Meets next.latches (clock s).seq := h.clock_eq hh hs hr ▸ hgives (poll s) h.function h.meets
    refine seq_wf_of_exec hphase (execReady_of_row (q := q) ?_ ?_ ?_ hnext (meets_of_latches hlatches ?_))
    · rw [hmn, hmode, hbase]
      exact tableCycles_of_execReady hw
    · rw [hmn, hmode, h.sequence]
    · rw [ht, h.t]
    · exact fun b hb => hcrossed.trans (hc b hb)

/-- A clock of an interrupt sequence keeps the sequencer consistent (R302). -/
theorem interrupt_clock_seq_wf (hh : s.halted = none) (hs : s.stallCycles = 0)
    (hp : s.seq.phase = .nmiSeq ∨ s.seq.phase = .irqSeq) (hw : s.seq.interruptReady = true) :
    (clock s).seq.wf = true := by
  obtain ⟨hb, n, need, ht, hn, hm⟩ := interrupt_row hw
  obtain ⟨vec, hclock⟩ := clock_interrupt hh hs hp
  obtain ⟨row, hr, hrow⟩ := (countsDown_interrupt vec).row hn
  have heq : clock s = row (poll s) := hclock.trans (rowInterrupt_eq hr ht)
  rcases hrow with ⟨-, hends⟩ | ⟨hmore, hstays⟩
  · obtain ⟨c, -, -, -, -, hidle, -⟩ := hends (poll s) rfl hm
    exact seq_wf_of_idle (heq ▸ hidle)
  · obtain ⟨c, ht', -, -, hb', hp', -⟩ := hstays (poll s) rfl hm
    rw [← heq, poll_seq] at ht' hb' hp'
    have hlt : n + 1 < 6 := by simpa [entryRows] using hmore
    refine seq_wf_of_interrupt (hp' ▸ hp) ?_
    have htemp : n + 1 = 5 → (clock s).seq.tempLatch.isSome = true := by
      intro hlast
      obtain ⟨row', hr', hgives⟩ := (feeds_interrupt vec).row (next := .second) hn (by rw [hlast]; rfl)
      obtain rfl : row = row' := Option.some.inj (hr.symm.trans hr')
      exact heq ▸ (hgives (poll s) rfl hm).temp rfl
    simp only [SeqState.interruptReady, hb', hb, ht', ht, Bool.and_eq_true, decide_eq_true_eq, Bool.or_eq_true,
      bne_iff_ne, beq_iff_eq, true_and]
    refine ⟨⟨by omega, by omega⟩, ?_⟩
    by_cases hlast : n + 1 = 5
    · exact .inr (htemp hlast)
    · exact .inl (by omega)

end Advance

/-- The table gives one cycle count to a mnemonic in a mode, and the first row after the decode clock reads no latch
(R99, R133). -/
theorem decoded_execReady {e : Entry} (h : InTable e) (op : Byte) (s : State) :
    (decodeClock op e s).seq.execReady = true := by
  have key : ∀ row ∈ opcodeMap, ∀ o ∈ row,
      (o.all fun e => tableCycles e.mnemonic e.mode == some e.cycles) = true := by decide
  obtain ⟨row, hrow, he⟩ := h
  obtain ⟨q, hq, -⟩ := sequence_of_inTable ⟨row, hrow, he⟩
  obtain ⟨need, hn, hm⟩ : ∃ need, (rowNeeds q)[0]? = some need ∧ (decodeClock op e s).seq.meets need = true := by
    cases q <;> exact ⟨_, rfl, rfl⟩
  have htable : tableCycles e.mnemonic e.mode = some e.cycles := by simpa using key row hrow _ he
  exact execReady_of_row htable hq rfl hn hm

/-! ### The clocks -/

/-- A clock in flight keeps the invariant. -/
theorem clock_inFlight_wf {s : State} (hw : s.wf = true) (hh : s.halted = none) (hs : s.stallCycles = 0)
    (hp : s.seq.phase ≠ .idle) : (clock s).wf = true := by
  obtain ⟨hmem, hseq, hstall, hconfig⟩ := wf_iff.mp hw
  have hframe := clock_frame hh hs hp
  refine wf_iff.mpr ⟨hframe.mem hmem, ?_, by rw [hframe.stall, hframe.config, hstall], by rw [hframe.config, hconfig]⟩
  unfold SeqState.wf at hseq
  cases hphase : s.seq.phase <;> rw [hphase] at hseq
  case idle => exact absurd hphase hp
  case exec => exact exec_clock_seq_wf hh hs hphase hseq
  case nmiSeq => exact interrupt_clock_seq_wf hh hs (.inl hphase) hseq
  case irqSeq => exact interrupt_clock_seq_wf hh hs (.inr hphase) hseq

/-- An Idle clock begins a sequence at its second row, or leaves the sequencer Idle. -/
theorem clock_idle_wf {s : State} (hw : s.wf = true) (hh : s.halted = none) (hs : s.stallCycles = 0)
    (hp : s.seq.phase = .idle) : (clock s).wf = true := by
  obtain ⟨hmem, hseq, hstall, hconfig⟩ := wf_iff.mp hw
  rcases idle_clock_cases hh hs hp with
    ⟨phase, u, hphase, -, hu, humem, -, huconfig, hustall, hc⟩ | ⟨e, he, hc⟩ | hc <;> rw [hc, wf_iff]
  · refine ⟨by simpa [humem] using hmem, seq_wf_of_interrupt (by simpa using hphase) ?_, ?_, ?_⟩
    · simp [SeqState.interruptReady]
    · simpa [huconfig, hustall] using hstall
    · simpa [huconfig] using hconfig
  · exact ⟨hmem, seq_wf_of_exec rfl (decoded_execReady (inTable_of_lookup he) _ s), hstall, hconfig⟩
  · exact ⟨hmem, hseq, hstall, hconfig⟩

theorem stallFits_of_le {c : Config} {m n : Nat} (h : c.stallFits n = true) (hle : m ≤ n) : c.stallFits m = true := by
  unfold Config.stallFits at h ⊢
  split
  · rfl
  · simp_all only [decide_eq_true_eq]
    omega

/-- Every clock keeps the invariant (R39, R42). -/
theorem clock_wf {s : State} (hw : s.wf = true) : (clock s).wf = true := by
  cases hh : s.halted with
  | some f => rwa [clock_halted hh]
  | none =>
  by_cases hs : s.stallCycles = 0
  case neg =>
    obtain ⟨hmem, hseq, hstall, hconfig⟩ := wf_iff.mp hw
    rw [clock_stalled hh hs]
    exact wf_iff.mpr ⟨hmem, hseq, stallFits_of_le hstall (Nat.sub_le _ 1), hconfig⟩
  by_cases hp : s.seq.phase = .idle
  · exact clock_idle_wf hw hh hs hp
  · exact clock_inFlight_wf hw hh hs hp

theorem clocks_wf {s : State} (hw : s.wf = true) (n : Nat) : (clocks n s).wf = true := by
  induction n with
  | zero => exact hw
  | succ n ih => exact clocks_succ_last n s ▸ clock_wf ih

/-! ### The obligations -/

/-- Settles O44: the clock by its cases; a host call writes no field of the invariant but the stall count, which it
writes only where it fits. -/
theorem clocksAndHostCallsKeepTheInvariant : Obligations.ClocksAndHostCallsKeepTheInvariant := by
  intro s hw
  refine ⟨clock_wf hw, ?_⟩
  cases hh : s.halted with
  | some f =>
    simp only [triggerNmi, assertIrqLine, deassertIrqLine, loadResetVector, unlessHalted_halted hh, addStall_halted hh,
      restore_halted hh, Host.Outcome.next.injEq]
    exact ⟨hw, hw, hw, hw, fun n t ht => ht ▸ hw, fun r t ht => ht ▸ hw⟩
  | none =>
    obtain ⟨hmem, hseq, hstall, hconfig⟩ := wf_iff.mp hw
    rw [triggerNmi, assertIrqLine, deassertIrqLine, unlessHalted_running hh, unlessHalted_running hh,
      unlessHalted_running hh, loadResetVector_running hh]
    refine ⟨hw, hw, hw, hw, fun n t ht => ?_, fun r t ht => ?_⟩
    · rw [addStall_running hh] at ht
      split at ht
      · next hfits =>
        obtain rfl := Host.Outcome.next.inj ht
        exact wf_iff.mpr ⟨hmem, hseq, hfits, hconfig⟩
      · cases ht
    · by_cases hp : s.seq.phase = .idle
      · rw [restore_idle hh hp] at ht
        exact Host.Outcome.next.inj ht ▸ hw
      · rw [restore_inFlight hh hp] at ht
        cases ht

/-- Settles O43: a step is some number of clocks, each of which keeps the invariant. -/
theorem stepKeepsTheInvariant : Obligations.StepKeepsTheInvariant := by
  intro s t hw ht
  obtain ⟨n, -, -, hn⟩ := stepIsAtMostSevenClocks s
  rw [hn, outcomeOf] at ht
  split at ht
  · cases ht
  · exact Host.Outcome.next.inj ht ▸ clocks_wf hw n

end Sys2Proof.Machine
end

section
/-! The latches an instruction leaves (R36, log 10): its table entry from the decode clock, and the page-cross check of
its form. -/

namespace Sys2Proof.Machine

open Sys2Proof

/-- The latches of an instruction of this entry, with this page-cross indication. -/
def HoldsEntry (e : Entry) (crossed : Bool) (c : SeqState) : Prop :=
  c.mnemonic = e.mnemonic ∧ c.mode = e.mode ∧ c.baseCycles = e.cycles ∧ c.crossed = crossed

/-- The outcome is a state with these latches. -/
def LeavesEntry (o : Result) (e : Entry) (crossed : Bool) : Prop := ∃ t, o = .next t ∧ HoldsEntry e crossed t.seq

/-- The page-cross check of a form (R92, R153, R158). -/
def Form.crosses (f : Form) (s : State) : Bool :=
  match f with
  | .abx base | .aby base => hi base != hi (f.ea s)
  | .izy p => hi (izyBase p s) != hi (f.ea s)
  | _ => false

section Forms

variable (op : Byte) (e : Entry) (s : State)

theorem addrAbsChecked_holdsEntry (base : Addr) (idx : Byte) :
    HoldsEntry e (hi base != hi (base + zext16 idx)) (addrAbsChecked base idx (decodeClock op e s)).2.seq := by
  simp [HoldsEntry, addrAbsChecked, addrAbs, samePage_iff, bne]

theorem addrIzyBase_holdsEntry (p : Byte) :
    HoldsEntry e ((Form.izy p).crosses s) (addrIzyBase p (decodeClock op e s)).2.seq := by
  rw [Form.crosses, Form.ea, ← addrIzyBase_decodeClock op e s p]
  simp [HoldsEntry, addrIzyBase, samePage_iff, bne]

variable {e} {c : Bool}

theorem fixup_holdsEntry {u : State} (h : HoldsEntry e c u.seq) (base ea : Addr) :
    HoldsEntry e c (fixup base ea u).seq := by
  simpa [HoldsEntry, fixup] using h

theorem fixupIfCrossed_holdsEntry {u : State} (h : HoldsEntry e c u.seq) (base ea : Addr) :
    HoldsEntry e c (fixupIfCrossed base ea u).seq := by
  unfold fixupIfCrossed
  split
  · exact h
  · exact fixup_holdsEntry h base ea

/-- The address clocks of the W and M kinds. -/
theorem address_holdsEntry (f : Form) : HoldsEntry e (f.crosses s) (f.address (decodeClock op e s)).2.seq := by
  cases f with
  | abx base => exact fixup_holdsEntry (addrAbsChecked_holdsEntry op e s base s.regs.x) base _
  | aby base => exact fixup_holdsEntry (addrAbsChecked_holdsEntry op e s base s.regs.y) base _
  | izy p => exact fixup_holdsEntry (addrIzyBase_holdsEntry op e s p) _ _
  | imm v | zp p | zpx p | zpy p | abs a | izx p =>
    simp [HoldsEntry, Form.address, Form.crosses, addrZp, addrZpIndexed, addrAbs, addrIzx]

theorem readForm_leavesEntry (ap : Apply) (f : Form) :
    LeavesEntry (readForm ap f (decodeClock op e s)) e (f.crosses s) := by
  cases f with
  | abx base =>
    exact ⟨_, rfl, fixupIfCrossed_holdsEntry (addrAbsChecked_holdsEntry op e s base s.regs.x) base _⟩
  | aby base =>
    exact ⟨_, rfl, fixupIfCrossed_holdsEntry (addrAbsChecked_holdsEntry op e s base s.regs.y) base _⟩
  | izy p => exact ⟨_, rfl, fixupIfCrossed_holdsEntry (addrIzyBase_holdsEntry op e s p) _ _⟩
  | imm v | zp p | zpx p | zpy p | abs a | izx p =>
    refine ⟨_, rfl, ?_⟩
    simp [HoldsEntry, Form.crosses, readFinal, readFinalLocal, addrZp, addrZpIndexed, addrAbs, addrIzx]

theorem writeForm_leavesEntry (value : RegisterFile → Byte) (f : Form) :
    LeavesEntry (writeForm value f (decodeClock op e s)) e (f.crosses s) :=
  ⟨_, rfl, address_holdsEntry op s f⟩

theorem modifyForm_leavesEntry (modify : Modify) (f : Form) :
    LeavesEntry (modifyForm modify f (decodeClock op e s)) e (f.crosses s) := by
  refine ⟨_, rfl, ?_⟩
  simpa [HoldsEntry, rmwFinal, rmwRead, rmwApply, rmwWrite] using address_holdsEntry op s f

theorem implied_leavesEntry (f : RegisterFile → RegisterFile) :
    LeavesEntry (implied f (decodeClock op e s)) e false := by
  refine ⟨_, rfl, ?_⟩
  simp [HoldsEntry]

theorem modifyAcc_leavesEntry (modify : Modify) : LeavesEntry (modifyAcc modify (decodeClock op e s)) e false := by
  refine ⟨_, rfl, ?_⟩
  simp [HoldsEntry]

theorem pushForm_leavesEntry (value : RegisterFile → Byte) :
    LeavesEntry (pushForm value (decodeClock op e s)) e false := by
  refine ⟨_, rfl, ?_⟩
  simp [HoldsEntry]

theorem pullForm_leavesEntry (ap : Apply) : LeavesEntry (pullForm ap (decodeClock op e s)) e false := by
  refine ⟨_, rfl, ?_⟩
  simp [HoldsEntry]

theorem branch_leavesEntry {mn : Mnemonic} {cond : RegisterFile → Bool} (hf : condOf mn = some cond) (offset : Byte) :
    ∃ c, LeavesEntry (branch cond offset (decodeClock op e s)) e c := by
  rw [branch_eq hf]
  refine ⟨_, _, rfl, ?_, ?_, ?_, rfl⟩ <;> dsimp only <;> split_ifs <;> simp [branchFetch, branchTake, branchFix]

end Forms

theorem jmpAbs_leavesEntry (target : Addr) (s : State) :
    LeavesEntry (exec (.jmpAbs target) s) (Instr.jmpAbs target).entry false :=
  ⟨_, rfl, rfl, rfl, rfl, rfl⟩

theorem jmpInd_leavesEntry (ptr : Addr) (s : State) :
    LeavesEntry (exec (.jmpInd ptr) s) (Instr.jmpInd ptr).entry false :=
  ⟨_, rfl, rfl, rfl, rfl, rfl⟩

theorem jsr_leavesEntry (target : Addr) (s : State) :
    LeavesEntry (exec (.jsr target) s) (Instr.jsr target).entry false := by
  refine ⟨_, rfl, ?_⟩
  simp [HoldsEntry, jsrFinal, jsrPushHigh, jsrBack, Instr.entry, Instr.mnemonic, Instr.mode, Instr.cycles]

theorem rts_leavesEntry (s : State) : LeavesEntry (exec .rts s) Instr.rts.entry false := by
  refine ⟨_, rfl, ?_⟩
  simp [HoldsEntry, rtsFinal, rtsHigh, rtsLow, pullDummy, Instr.entry, Instr.mnemonic, Instr.mode, Instr.cycles]

theorem brk_leavesEntry (s : State) : LeavesEntry (exec .brk s) Instr.brk.entry false := by
  refine ⟨_, rfl, ?_⟩
  simp [HoldsEntry, pushAndVector, vectorHigh, vectorLow, brkSkip, Instr.entry, Instr.mnemonic, Instr.mode,
    Instr.cycles]

theorem rti_leavesEntry (s : State) : LeavesEntry (exec .rti s) Instr.rti.entry false := by
  refine ⟨_, rfl, ?_⟩
  simp [HoldsEntry, returnFromInterrupt, Instr.entry, Instr.mnemonic, Instr.mode, Instr.cycles]

/-- The kinds R, W and M leave their entry and the page-cross check of their form. -/
theorem exec_leavesEntry_form {i : Instr} {f : Form} (s : State) (hf : formOf i = some f)
    (hk : kindOf i.mnemonic ≠ .other) : LeavesEntry (exec i s) i.entry (f.crosses s) := by
  cases hkind : kindOf i.mnemonic with
  | read =>
    obtain ⟨-, ap, -, ha⟩ := formOf_read hkind
    exact exec_read s hkind ha hf ▸ readForm_leavesEntry i.opcode s ap f
  | write =>
    obtain ⟨-, value, -, ha⟩ := formOf_write hkind
    exact exec_write s hkind ha hf ▸ writeForm_leavesEntry i.opcode s value f
  | modify =>
    obtain ⟨-, modify, ha⟩ := formOf_modify hkind
    exact exec_modify s ha hf ▸ modifyForm_leavesEntry i.opcode s modify f
  | other => exact absurd hkind hk

theorem exec_leavesEntry_other {i : Instr} (s : State) (hk : kindOf i.mnemonic = .other) :
    ∃ c, LeavesEntry (exec i s) i.entry c := by
  obtain ⟨-, f, ha⟩ | ⟨-, cond, ha⟩ | ⟨-, value, ha⟩ | ⟨-, ap, ha⟩ | ⟨a, rfl⟩ | ⟨a, rfl⟩ | ⟨a, rfl⟩ | rfl | rfl | rfl :=
    other_cases hk
  · exact ⟨_, exec_implied s ha ▸ implied_leavesEntry i.opcode s f⟩
  · obtain ⟨offset, -, hx⟩ := exec_branch s ha
    exact hx ▸ branch_leavesEntry i.opcode s ha offset
  · exact ⟨_, exec_push s hk ha ▸ pushForm_leavesEntry i.opcode s value⟩
  · exact ⟨_, exec_pull s hk ha ▸ pullForm_leavesEntry i.opcode s ap⟩
  · exact ⟨_, jmpAbs_leavesEntry a s⟩
  · exact ⟨_, jmpInd_leavesEntry a s⟩
  · exact ⟨_, jsr_leavesEntry a s⟩
  · exact ⟨_, rts_leavesEntry s⟩
  · exact ⟨_, brk_leavesEntry s⟩
  · exact ⟨_, rti_leavesEntry s⟩

/-- An R, W or M instruction without a form is in accumulator mode (R101). -/
theorem accumulator_of_formless {i : Instr} (hf : formOf i = none) (hk : kindOf i.mnemonic ≠ .other) :
    i.mode = .acc ∧ ∃ modify, modifyOf i.mnemonic = some modify := by
  cases hkind : kindOf i.mnemonic with
  | read =>
    obtain ⟨f, -, hform, -⟩ := formOf_read hkind
    simp [hf] at hform
  | write =>
    obtain ⟨f, -, hform, -⟩ := formOf_write hkind
    simp [hf] at hform
  | modify =>
    obtain ⟨hform, hmodify⟩ := formOf_modify hkind
    exact ⟨hform.resolve_right (by simp [hf]), hmodify⟩
  | other => exact absurd hkind hk

/-- Every instruction leaves its entry in the latches, and the page-cross check of its form if it has one. -/
theorem exec_leavesEntry (i : Instr) (s : State) :
    ∃ c, LeavesEntry (exec i s) i.entry c ∧
      ∀ f, formOf i = some f → kindOf i.mnemonic ≠ .other → c = f.crosses s := by
  by_cases hk : kindOf i.mnemonic = .other
  · obtain ⟨c, h⟩ := exec_leavesEntry_other s hk
    exact ⟨c, h, fun _ _ hne => absurd hk hne⟩
  cases hf : formOf i with
  | some f =>
    refine ⟨_, exec_leavesEntry_form s hf hk, ?_⟩
    rintro f' ⟨⟩ -
    rfl
  | none =>
    obtain ⟨hm, modify, ha⟩ := accumulator_of_formless hf hk
    exact ⟨_, exec_accumulator s ha hm ▸ modifyAcc_leavesEntry i.opcode s modify, nofun⟩

/-- Settles O53: completion and its clocks by kind, the bounds of the count, and the latches that the decode clock set
and the form checked. -/
theorem everyInstructionCompletes : Obligations.EveryInstructionCompletes := by
  intro i s
  obtain ⟨t, ht, hp, hclocks, hnow, -⟩ := exec_next i s
  obtain ⟨hlo, hhi, hbase, hext⟩ := clocksOf_bounds i s
  obtain ⟨c, ⟨t', ht', hmn, hmode, hcycles, hc⟩, hform⟩ := exec_leavesEntry i s
  obtain rfl : t' = t := Host.Outcome.next.inj (ht'.symm.trans ht)
  refine ⟨t', ht, hp, hclocks, hnow, hlo, hhi, hbase, hext, ?_, hmn, hmode, fun f hf hk => ?_⟩
  · rw [hmn, hmode, hcycles]
    exact lookup_opcode i
  · rw [hc, hform f hf hk]
    cases f <;> rfl

end Sys2Proof.Machine
end

section
/-! Two runs side by side: from two states that differ in D, in `DUMMY_BUS` and in the record of accesses alone, every
instruction and interrupt ends in two such states (R8, R12, R32, R170). -/

namespace Sys2Proof.Machine

open Sys2Proof

/-- `s` with another D, another value of `DUMMY_BUS` and another record. -/
def varied (k : Bool → Bool) (d : DummyBus) (tr : List Access) (s : State) : State :=
  { s with
    regs := { s.regs with d := k s.regs.d }
    config := { s.config with dummyBus := d }
    bus := { s.bus with trace := tr } }

/-- `s'` is `s` with D under `k`, `DUMMY_BUS = d` and some record, which is that of `s` where `keep` asks for it. -/
def Alike (k : Bool → Bool) (d : DummyBus) (keep : Prop) (s s' : State) : Prop :=
  ∃ tr, s' = varied k d tr s ∧ (keep → tr = s.bus.trace ∧ d = s.config.dummyBus)

/-- A function of the registers that neither reads D nor writes it. -/
def Inert (k : Bool → Bool) (f : RegisterFile → RegisterFile) : Prop :=
  ∀ r, f { r with d := k r.d } = { f r with d := k (f r).d }

/-- The M kind writes Z, N and C (R169). -/
theorem inert_setNZ_setCarry {k : Bool → Bool} (v : Byte) (cout : Option Bool) :
    Inert k fun r => setNZ v (setCarry cout r) := by
  cases cout <;> exact fun _ => rfl

/-- A value of the registers that does not depend on D. -/
def Blind (k : Bool → Bool) {α : Type} (value : RegisterFile → α) : Prop := ∀ r, value { r with d := k r.d } = value r

/-- RTI's clocks by the names the rows of R168 give them. -/
theorem returnFromInterrupt_eq (s : State) :
    returnFromInterrupt s =
      rtiFinal
        (answer (stackAddr (pullDummy (dummyRead s.regs.pc s))) (pullDummy (dummyRead s.regs.pc s)))
        (answer (stackAddr (rtiStatus (pullDummy (dummyRead s.regs.pc s))))
          (rtiStatus (pullDummy (dummyRead s.regs.pc s))))
        (rtsLow (rtiStatus (pullDummy (dummyRead s.regs.pc s)))) :=
  rfl

/-- A pull's clocks by the names the rows of R166 give them. -/
theorem pullForm_eq (ap : Apply) (s : State) :
    pullForm ap s = .next (endInstr (mapRegs
      (ap (answer (stackAddr (pullDummy (dummyRead s.regs.pc s))) (pullDummy (dummyRead s.regs.pc s))))
      (readCycle (stackAddr (pullDummy (dummyRead s.regs.pc s))) (pullDummy (dummyRead s.regs.pc s))))) :=
  rfl

/-- RTS's clocks by the names the rows of R164 give them. -/
theorem returnForm_eq (s : State) :
    returnForm s = .next (rtsFinal (rtsHigh
      (answer (stackAddr (pullDummy (dummyRead s.regs.pc s))) (pullDummy (dummyRead s.regs.pc s)))
      (rtsLow (pullDummy (dummyRead s.regs.pc s))))) :=
  rfl

namespace Alike

variable {k : Bool → Bool} {d : DummyBus} {keep : Prop} {s s' : State}

/-! ### What the two states have in common -/

theorem regs (h : Alike k d keep s s') : s'.regs = { s.regs with d := k s.regs.d } := by
  obtain ⟨tr, rfl, -⟩ := h
  rfl

theorem blind (h : Alike k d keep s s') {α : Type} {value : RegisterFile → α} (hv : Blind k value) :
    value s'.regs = value s.regs := by
  rw [h.regs, hv]

theorem answer (h : Alike k d keep s s') (a : Addr) : answer a s' = answer a s := by
  obtain ⟨tr, rfl, -⟩ := h
  rfl

/-! ### One operation on both -/

/-- An operation that reads neither D nor `DUMMY_BUS`, and of the record at most puts something before it. -/
theorem of_op {op : State → State} (h : Alike k d keep s s')
    (hop : ∀ tr, ∃ tr', op (varied k d tr s) = varied k d tr' (op s) ∧ (tr = s.bus.trace → tr' = (op s).bus.trace))
    (hconfig : (op s).config = s.config) : Alike k d keep (op s) (op s') := by
  obtain ⟨tr, rfl, hkeep⟩ := h
  obtain ⟨tr', heq, htr⟩ := hop tr
  exact ⟨tr', heq, fun hk => ⟨htr (hkeep hk).1, hconfig ▸ (hkeep hk).2⟩⟩

theorem readCycle (h : Alike k d keep s s') (a : Addr) : Alike k d keep (readCycle a s) (readCycle a s') :=
  h.of_op (fun _ => ⟨_, rfl, fun htr => htr ▸ rfl⟩) rfl

theorem writeCycle (h : Alike k d keep s s') (a : Addr) (v : Byte) :
    Alike k d keep (writeCycle a v s) (writeCycle a v s') :=
  h.of_op (fun _ => ⟨_, rfl, fun htr => htr ▸ rfl⟩) rfl

theorem fetchCycle (h : Alike k d keep s s') (v : Byte) : Alike k d keep (fetchCycle v s) (fetchCycle v s') :=
  h.of_op (fun _ => ⟨_, rfl, fun htr => htr ▸ rfl⟩) rfl

theorem readAtPc (h : Alike k d keep s s') (v : Byte) : Alike k d keep (readAtPc v s) (readAtPc v s') :=
  h.of_op (fun _ => ⟨_, rfl, fun htr => htr ▸ rfl⟩) rfl

theorem push (h : Alike k d keep s s') (v : Byte) : Alike k d keep (push v s) (push v s') :=
  h.of_op (fun _ => ⟨_, rfl, fun htr => htr ▸ rfl⟩) rfl

theorem decodeClock (h : Alike k d keep s s') (op : Byte) (e : Entry) :
    Alike k d keep (decodeClock op e s) (decodeClock op e s') :=
  h.of_op (fun _ => ⟨_, rfl, fun htr => htr ▸ rfl⟩) rfl

theorem dummyRead (h : Alike k d keep s s') (a : Addr) : Alike k d keep (dummyRead a s) (dummyRead a s') := by
  obtain ⟨tr, rfl, hkeep⟩ := h
  refine ⟨(Machine.dummyRead a (varied k d tr s)).bus.trace, ?_, fun hk => ?_⟩
  · cases d <;> cases hs : s.config.dummyBus <;> simp only [Machine.dummyRead, hs] <;> rfl
  · obtain ⟨rfl, rfl⟩ := hkeep hk
    refine ⟨?_, by simp⟩
    cases hs : s.config.dummyBus <;> simp only [Machine.dummyRead, hs] <;> rfl

theorem setPc (h : Alike k d keep s s') (a : Addr) : Alike k d keep (setPc a s) (setPc a s') :=
  h.of_op (fun tr => ⟨tr, rfl, id⟩) rfl

theorem setSp (h : Alike k d keep s s') (v : Byte) : Alike k d keep (setSp v s) (setSp v s') :=
  h.of_op (fun tr => ⟨tr, rfl, id⟩) rfl

theorem setEa (h : Alike k d keep s s') (a : Addr) : Alike k d keep (setEa a s) (setEa a s') :=
  h.of_op (fun tr => ⟨tr, rfl, id⟩) rfl

theorem setOperand (h : Alike k d keep s s') (v : Byte) : Alike k d keep (setOperand v s) (setOperand v s') :=
  h.of_op (fun tr => ⟨tr, rfl, id⟩) rfl

theorem setTemp (h : Alike k d keep s s') (v : Byte) : Alike k d keep (setTemp v s) (setTemp v s') :=
  h.of_op (fun tr => ⟨tr, rfl, id⟩) rfl

theorem setCrossed (h : Alike k d keep s s') (b : Bool) : Alike k d keep (setCrossed b s) (setCrossed b s') :=
  h.of_op (fun tr => ⟨tr, rfl, id⟩) rfl

theorem endInstr (h : Alike k d keep s s') : Alike k d keep (endInstr s) (endInstr s') :=
  h.of_op (fun tr => ⟨tr, rfl, id⟩) rfl

theorem mapRegs (h : Alike k d keep s s') {f : RegisterFile → RegisterFile} (hf : Inert k f) :
    Alike k d keep (mapRegs f s) (mapRegs f s') :=
  h.of_op (fun tr => ⟨tr, by simp only [Machine.mapRegs, varied, hf s.regs], id⟩) rfl

/-- A dummy write and the write after it: the byte the dummy write puts back is overwritten (R170). -/
theorem rmwWriteApply (h : Alike k d keep s s') (a : Addr) (original result : Byte) (cout : Option Bool) :
    Alike k d keep (rmwWrite a result cout (rmwApply a original result s))
      (rmwWrite a result cout (rmwApply a original result s')) := by
  have hwrites : Alike k d keep (Machine.writeCycle a result (Machine.dummyWrite a original s))
      (Machine.writeCycle a result (Machine.dummyWrite a original s')) := by
    obtain ⟨tr, rfl, hkeep⟩ := h
    refine ⟨(Machine.writeCycle a result (Machine.dummyWrite a original (varied k d tr s))).bus.trace, ?_, fun hk => ?_⟩
    · cases d <;> cases hs : s.config.dummyBus <;>
        simp [Machine.writeCycle, Machine.dummyWrite, varied, tick, record, poll, hs, Memory.write_write]
    · obtain ⟨rfl, rfl⟩ := hkeep hk
      refine ⟨?_, by simp⟩
      cases hs : s.config.dummyBus <;> simp only [Machine.dummyWrite, hs] <;> rfl
  exact ((hwrites.setTemp result).mapRegs (inert_setNZ_setCarry result cout)).endInstr

theorem beginInterrupt (h : Alike k d keep s s') (p : Phase) :
    Alike k d keep (beginInterrupt p s) (beginInterrupt p s') :=
  h.of_op (fun tr => ⟨tr, rfl, id⟩) rfl

/-! ### Operations at an address the registers give -/

theorem pc (h : Alike k d keep s s') : s'.regs.pc = s.regs.pc := h.blind fun _ => rfl

theorem sp (h : Alike k d keep s s') : s'.regs.sp = s.regs.sp := h.blind fun _ => rfl

theorem x (h : Alike k d keep s s') : s'.regs.x = s.regs.x := h.blind fun _ => rfl

theorem y (h : Alike k d keep s s') : s'.regs.y = s.regs.y := h.blind fun _ => rfl

theorem stackAddr (h : Alike k d keep s s') : stackAddr s' = stackAddr s := by
  rw [Machine.stackAddr, h.sp, Machine.stackAddr]

theorem dummyPc (h : Alike k d keep s s') :
    Alike k d keep (Machine.dummyRead s.regs.pc s) (Machine.dummyRead s'.regs.pc s') := by
  rw [h.pc]
  exact h.dummyRead _

theorem pullDummy (h : Alike k d keep s s') : Alike k d keep (pullDummy s) (pullDummy s') := by
  rw [Machine.pullDummy, Machine.pullDummy, h.sp, h.stackAddr]
  exact (h.dummyRead _).setSp _

theorem rtsLow (h : Alike k d keep s s') : Alike k d keep (rtsLow s) (rtsLow s') := by
  rw [Machine.rtsLow, Machine.rtsLow, h.sp, h.stackAddr, h.answer]
  exact ((h.readCycle _).setTemp _).setSp _

theorem rtiStatus (h : Alike k d keep s s') : Alike k d keep (rtiStatus s) (rtiStatus s') := by
  rw [Machine.rtiStatus, Machine.rtiStatus, h.sp, h.stackAddr, h.answer]
  exact ((h.readCycle _).setOperand _).setSp _

theorem rtsHigh (h : Alike k d keep s s') (l : Byte) : Alike k d keep (rtsHigh l s) (rtsHigh l s') := by
  rw [Machine.rtsHigh, Machine.rtsHigh, h.stackAddr, h.answer]
  exact (h.readCycle _).setPc _

theorem rtsFinal (h : Alike k d keep s s') : Alike k d keep (rtsFinal s) (rtsFinal s') := by
  rw [Machine.rtsFinal, Machine.rtsFinal, h.pc]
  exact ((h.dummyRead _).setPc _).endInstr

theorem jsrBack (h : Alike k d keep s s') : Alike k d keep (jsrBack s) (jsrBack s') := by
  rw [Machine.jsrBack, Machine.jsrBack, h.pc, h.stackAddr]
  exact (h.dummyRead _).setPc _

theorem jsrPushHigh (h : Alike k d keep s s') : Alike k d keep (jsrPushHigh s) (jsrPushHigh s') := by
  rw [Machine.jsrPushHigh, Machine.jsrPushHigh, h.pc]
  exact h.push _

theorem jsrFinal (h : Alike k d keep s s') (hb l : Byte) : Alike k d keep (jsrFinal hb l s) (jsrFinal hb l s') := by
  rw [Machine.jsrFinal, Machine.jsrFinal, h.pc]
  exact ((h.push _).setPc _).endInstr

theorem jumpIndHigh (h : Alike k d keep s s') (ptr : Addr) (l : Byte) :
    Alike k d keep (jumpIndHigh ptr l s) (jumpIndHigh ptr l s') := by
  rw [Machine.jumpIndHigh, Machine.jumpIndHigh, h.answer]
  exact ((h.readCycle _).setPc _).endInstr

theorem vectorLow (h : Alike k d keep s s') (vec : Addr) : Alike k d keep (vectorLow vec s) (vectorLow vec s') := by
  rw [Machine.vectorLow, Machine.vectorLow, h.answer]
  exact (h.readCycle _).setTemp _

theorem vectorHigh (h : Alike k d keep s s') (vec : Addr) (l : Byte) :
    Alike k d keep (vectorHigh vec l s) (vectorHigh vec l s') := by
  rw [Machine.vectorHigh, Machine.vectorHigh, h.answer]
  exact ((h.readCycle _).mapRegs fun _ => rfl).endInstr

theorem brkSkip (h : Alike k d keep s s') : Alike k d keep (brkSkip s) (brkSkip s') := by
  rw [Machine.brkSkip, Machine.brkSkip, h.pc]
  exact (h.dummyRead _).setPc _

theorem branchTake (h : Alike k d keep s s') (offset : Byte) :
    Alike k d keep (branchTake offset s) (branchTake offset s') := by
  rw [Machine.branchTake, Machine.branchTake, h.pc]
  exact ((((h.dummyRead _).setTemp _).setEa _).setCrossed _).setPc _

theorem branchFix (h : Alike k d keep s s') (page : Byte) : Alike k d keep (branchFix page s) (branchFix page s') := by
  rw [Machine.branchFix, Machine.branchFix, h.pc]
  exact (h.dummyRead _).endInstr

theorem pushOf (h : Alike k d keep s s') {value : RegisterFile → Byte} (hv : Blind k value) :
    Alike k d keep (Machine.push (value s.regs) s) (Machine.push (value s'.regs) s') := by
  rw [h.blind hv]
  exact h.push _

theorem vector (h : Alike k d keep s s') (vec : Addr) :
    Alike k d keep (Machine.vectorHigh vec (Machine.answer vec s) (Machine.vectorLow vec s))
      (Machine.vectorHigh vec (Machine.answer vec s') (Machine.vectorLow vec s')) := by
  rw [h.answer]
  exact (h.vectorLow vec).vectorHigh vec _

/-- The status byte is pushed, so it has to be the same. -/
theorem pushAndVector (h : Alike k d keep s s') (vec : Addr) {brk : Bool} (hp : Blind k (packP brk)) :
    Alike k d keep (pushAndVector vec brk s) (pushAndVector vec brk s') :=
  have h3 := h.pushOf (value := fun r => hi r.pc) fun _ => rfl
  have h4 := h3.pushOf (value := fun r => lo r.pc) fun _ => rfl
  (h4.pushOf hp).vector vec

theorem interruptSequence (h : Alike k d keep s s') (phase : Phase) (vec : Addr) (hp : Blind k (packP false)) :
    Alike k d keep (interruptSequence phase vec s) (interruptSequence phase vec s') :=
  (h.beginInterrupt phase).dummyPc.dummyPc.pushAndVector vec hp

/-- The byte a pull reads. -/
theorem pulled (h : Alike k d keep s s') :
    Machine.answer (Machine.stackAddr s') s' = Machine.answer (Machine.stackAddr s) s := by
  rw [h.stackAddr, h.answer]

theorem rtiFinal (h : Alike k d keep s s') (hp : ∀ p, Inert k (unpackP p)) (p l : Byte) :
    Alike k d keep (rtiFinal p l s) (rtiFinal p l s') := by
  have hunpack (target : Addr) : Inert k fun r => unpackP p { r with pc := target } :=
    fun r => hp p { r with pc := target }
  rw [Machine.rtiFinal, Machine.rtiFinal, h.stackAddr, h.answer]
  exact ((h.readCycle _).mapRegs (hunpack _)).endInstr

/-- All six flags are pulled, D among them. -/
theorem returnFromInterrupt (h : Alike k d keep s s') (hp : ∀ p, Inert k (unpackP p)) :
    Alike k d keep (returnFromInterrupt s) (returnFromInterrupt s') := by
  have h3 := h.dummyPc.pullDummy
  have h4 := h3.rtiStatus
  rw [returnFromInterrupt_eq, returnFromInterrupt_eq, h3.pulled, h4.pulled]
  exact h4.rtsLow.rtiFinal hp _ _

/-! ### The address clocks -/

end Alike

/-- Reading a pointer at two addresses of the zero page (R156, R158): the word, and the state that latches it. -/
def readPointer (p : Byte) (s : State) : Addr × State :=
  let l := answer (zext16 p) s
  let s4 := setEa (zext16 l) (readCycle (zext16 p) s)
  let h := answer (zext16 (p + 1#8)) s4
  (w16 h l, setEa (w16 h l) (readCycle (zext16 (p + 1#8)) s4))

theorem addrIzx_eq (p : Byte) (s : State) :
    addrIzx p s = readPointer (p + s.regs.x)
      (setOperand (p + s.regs.x) (dummyRead (zext16 p) (setOperand p (fetchCycle p s)))) :=
  rfl

theorem addrIzyBase_eq (p : Byte) (s : State) :
    addrIzyBase p s =
      let r := readPointer p (setOperand p (fetchCycle p s))
      (r.1, setCrossed (!samePage r.1 (r.1 + zext16 s.regs.y)) r.2) :=
  rfl

/-- The address clocks of two runs give one address and leave two states alike. -/
def AlikeAt (k : Bool → Bool) (d : DummyBus) (keep : Prop) (r r' : Addr × State) : Prop :=
  r'.1 = r.1 ∧ Alike k d keep r.2 r'.2

namespace Alike

variable {k : Bool → Bool} {d : DummyBus} {keep : Prop} {s s' : State}

theorem addrZp (h : Alike k d keep s s') (p : Byte) : AlikeAt k d keep (addrZp p s) (addrZp p s') :=
  ⟨rfl, (h.fetchCycle p).setEa _⟩

theorem addrZpIndexed (h : Alike k d keep s s') (p idx : Byte) :
    AlikeAt k d keep (addrZpIndexed p idx s) (addrZpIndexed p idx s') :=
  ⟨rfl, ((h.addrZp p).2.dummyRead _).setEa _⟩

theorem addrAbs (h : Alike k d keep s s') (a : Addr) : AlikeAt k d keep (addrAbs a s) (addrAbs a s') :=
  ⟨rfl, (((h.fetchCycle _).setEa _).fetchCycle _).setEa _⟩

theorem addrAbsChecked (h : Alike k d keep s s') (base : Addr) (idx : Byte) :
    AlikeAt k d keep (addrAbsChecked base idx s) (addrAbsChecked base idx s') :=
  ⟨rfl, (h.addrAbs base).2.setCrossed _⟩

theorem fixup (h : Alike k d keep s s') (base ea : Addr) : Alike k d keep (fixup base ea s) (fixup base ea s') :=
  (h.dummyRead base).setEa ea

theorem fixupIfCrossed (h : Alike k d keep s s') (base ea : Addr) :
    Alike k d keep (fixupIfCrossed base ea s) (fixupIfCrossed base ea s') := by
  unfold Machine.fixupIfCrossed
  split
  · exact h.setEa ea
  · exact h.fixup base ea

theorem readPointer (h : Alike k d keep s s') (p : Byte) : AlikeAt k d keep (readPointer p s) (readPointer p s') := by
  have h4 := (h.readCycle (zext16 p)).setEa (zext16 (Machine.answer (zext16 p) s))
  simp only [Machine.readPointer, h.answer, h4.answer]
  exact ⟨rfl, (h4.readCycle _).setEa _⟩

theorem addrIzx (h : Alike k d keep s s') (p : Byte) : AlikeAt k d keep (addrIzx p s) (addrIzx p s') := by
  rw [addrIzx_eq, addrIzx_eq, h.x]
  exact (((h.fetchCycle p).setOperand p).dummyRead _).setOperand _ |>.readPointer _

theorem addrIzyBase (h : Alike k d keep s s') (p : Byte) :
    AlikeAt k d keep (addrIzyBase p s) (addrIzyBase p s') := by
  obtain ⟨hbase, hstate⟩ := ((h.fetchCycle p).setOperand p).readPointer p
  simp only [addrIzyBase_eq, h.y, hbase]
  exact ⟨rfl, hstate.setCrossed _⟩

/-- The address clocks of the W and M kinds. -/
theorem address (h : Alike k d keep s s') (f : Form) : AlikeAt k d keep (f.address s) (f.address s') := by
  cases f with
  | imm v => exact ⟨h.pc, h⟩
  | zp p => exact h.addrZp p
  | zpx p =>
    rw [Form.address, Form.address, h.x]
    exact h.addrZpIndexed p _
  | zpy p =>
    rw [Form.address, Form.address, h.y]
    exact h.addrZpIndexed p _
  | abs a => exact h.addrAbs a
  | abx base =>
    rw [Form.address, Form.address, h.x]
    exact ⟨rfl, (h.addrAbsChecked base _).2.fixup base _⟩
  | aby base =>
    rw [Form.address, Form.address, h.y]
    exact ⟨rfl, (h.addrAbsChecked base _).2.fixup base _⟩
  | izx p => exact h.addrIzx p
  | izy p =>
    obtain ⟨hbase, hstate⟩ := h.addrIzyBase p
    rw [Form.address, Form.address, h.y, hbase]
    exact ⟨rfl, hstate.fixup _ _⟩

/-! ### The last clocks -/

theorem readFinal (h : Alike k d keep s s') {ap : Apply} (ha : ∀ m, Inert k (ap m)) (a : Addr) :
    Alike k d keep (readFinal ap a s) (readFinal ap a s') := by
  rw [Machine.readFinal, Machine.readFinal, h.answer]
  exact (((h.readCycle a).setOperand _).mapRegs (ha _)).endInstr

theorem readFinalLocal (h : Alike k d keep s s') {ap : Apply} (ha : ∀ m, Inert k (ap m)) (a : Addr) :
    Alike k d keep (readFinalLocal ap a s) (readFinalLocal ap a s') := by
  rw [Machine.readFinalLocal, Machine.readFinalLocal, h.answer]
  exact ((h.readCycle a).mapRegs (ha _)).endInstr

theorem writeFinal (h : Alike k d keep s s') {value : RegisterFile → Byte} (hv : Blind k value) (a : Addr) :
    Alike k d keep (writeFinal (value s.regs) a s) (writeFinal (value s'.regs) a s') := by
  rw [Machine.writeFinal, Machine.writeFinal, h.blind hv]
  exact (h.writeCycle a _).endInstr

theorem rmwFinal (h : Alike k d keep s s') (modify : Modify) (a : Addr) :
    Alike k d keep (rmwFinal modify a s) (rmwFinal modify a s') := by
  have hread : Alike k d keep (rmwRead a s) (rmwRead a s') := by
    rw [rmwRead, rmwRead, h.answer]
    exact ((h.readCycle a).setOperand _).setTemp _
  have hc : (rmwRead a s').regs.c = (rmwRead a s).regs.c := hread.blind (value := (·.c)) fun _ => rfl
  simp only [Machine.rmwFinal, h.answer, hc]
  exact hread.rmwWriteApply a _ _ _

end Alike

/-! ### The forms -/

/-- Both outcomes are next states, and these are alike. -/
def AlikeNext (k : Bool → Bool) (d : DummyBus) (keep : Prop) (o o' : Result) : Prop :=
  ∃ t t', o = .next t ∧ o' = .next t' ∧ Alike k d keep t t'

theorem Alike.next {k : Bool → Bool} {d : DummyBus} {keep : Prop} {t t' : State} (h : Alike k d keep t t') :
    AlikeNext k d keep (.next t) (.next t') :=
  ⟨t, t', rfl, rfl, h⟩

section Forms

variable {k : Bool → Bool} {d : DummyBus} {keep : Prop} {s s' : State} (h : Alike k d keep s s')

include h

theorem readForm_alike {ap : Apply} (ha : ∀ m, Inert k (ap m)) (f : Form) :
    AlikeNext k d keep (readForm ap f s) (readForm ap f s') := by
  cases f with
  | imm v => exact (((h.fetchCycle v).setOperand v).mapRegs (ha v)).endInstr.next
  | zp p => exact ((h.addrZp p).2.readFinal ha _).next
  | zpx p =>
    simp only [readForm, readZpx, h.x]
    exact ((h.addrZpIndexed p _).2.readFinal ha _).next
  | zpy p =>
    simp only [readForm, readZpy, h.y]
    exact ((h.addrZpIndexed p _).2.readFinal ha _).next
  | abs a => exact ((h.addrAbs a).2.readFinal ha _).next
  | abx base =>
    simp only [readForm, readAbx, h.x]
    exact (((h.addrAbsChecked base _).2.fixupIfCrossed base _).readFinal ha _).next
  | aby base =>
    simp only [readForm, readAby, h.y]
    exact (((h.addrAbsChecked base _).2.fixupIfCrossed base _).readFinal ha _).next
  | izx p =>
    obtain ⟨haddr, hstate⟩ := h.addrIzx p
    simp only [readForm, readIzx, haddr]
    exact (hstate.readFinalLocal ha _).next
  | izy p =>
    obtain ⟨hbase, hstate⟩ := h.addrIzyBase p
    simp only [readForm, readIzy, h.y, hbase]
    exact ((hstate.fixupIfCrossed _ _).readFinalLocal ha _).next

theorem writeForm_alike {value : RegisterFile → Byte} (hv : Blind k value) (f : Form) :
    AlikeNext k d keep (writeForm value f s) (writeForm value f s') := by
  obtain ⟨haddr, hstate⟩ := h.address f
  rw [writeForm, writeForm, haddr]
  exact (hstate.writeFinal hv _).next

theorem modifyForm_alike (modify : Modify) (f : Form) :
    AlikeNext k d keep (modifyForm modify f s) (modifyForm modify f s') := by
  obtain ⟨haddr, hstate⟩ := h.address f
  rw [modifyForm, modifyForm, haddr]
  exact (hstate.rmwFinal modify _).next

theorem modifyAcc_alike (modify : Modify) : AlikeNext k d keep (modifyAcc modify s) (modifyAcc modify s') := by
  have h2 := h.dummyPc
  have hset (v : Byte) (cout : Option Bool) : Inert k fun r => setNZ v (setCarry cout { r with a := v }) :=
    fun r => inert_setNZ_setCarry v cout { r with a := v }
  have hresult : modify (dummyRead s'.regs.pc s').regs.a (dummyRead s'.regs.pc s').regs.c =
      modify (dummyRead s.regs.pc s).regs.a (dummyRead s.regs.pc s).regs.c :=
    h2.blind (value := fun r => modify r.a r.c) fun _ => rfl
  simp only [modifyAcc, hresult]
  exact ((h2.mapRegs (hset _ _)).endInstr).next

theorem implied_alike {f : RegisterFile → RegisterFile} (hf : Inert k f) :
    AlikeNext k d keep (implied f s) (implied f s') :=
  (h.dummyPc.mapRegs hf).endInstr.next

theorem pushForm_alike {value : RegisterFile → Byte} (hv : Blind k value) :
    AlikeNext k d keep (pushForm value s) (pushForm value s') :=
  (h.dummyPc.pushOf hv).endInstr.next

theorem pullForm_alike {ap : Apply} (ha : ∀ m, Inert k (ap m)) :
    AlikeNext k d keep (pullForm ap s) (pullForm ap s') := by
  have h3 := h.dummyPc.pullDummy
  rw [pullForm_eq, pullForm_eq, h3.pulled, h3.stackAddr]
  exact ((h3.readCycle _).mapRegs (ha _)).endInstr.next

theorem branch_alike {mn : Mnemonic} {cond : RegisterFile → Bool} (hf : condOf mn = some cond) (offset : Byte) :
    AlikeNext k d keep (branch cond offset s) (branch cond offset s') := by
  have hc : Blind k cond := by
    cases mn <;> cases hf <;> exact fun _ => rfl
  have h2 : Alike k d keep (branchFetch offset s) (branchFetch offset s') := (h.fetchCycle offset).setOperand offset
  rw [branch_eq hf, branch_eq hf, h.blind hc, h.pc]
  dsimp only
  split_ifs
  · exact (h2.branchTake offset).endInstr.next
  · exact ((h2.branchTake offset).branchFix _).next
  · exact h2.endInstr.next

theorem jumpAbs_alike (target : Addr) : AlikeNext k d keep (jumpAbs target s) (jumpAbs target s') :=
  ((((h.fetchCycle _).setTemp _).readAtPc _).setPc _).endInstr.next

theorem jumpInd_alike (ptr : Addr) : AlikeNext k d keep (jumpInd ptr s) (jumpInd ptr s') := by
  obtain ⟨-, h3⟩ := h.addrAbs ptr
  have hlow : Alike k d keep (jumpIndLow ptr (addrAbs ptr s).2) (jumpIndLow ptr (addrAbs ptr s').2) := by
    rw [jumpIndLow, jumpIndLow, h3.answer]
    exact (h3.readCycle _).setTemp _
  simp only [jumpInd, h3.answer]
  exact (hlow.jumpIndHigh ptr _).next

theorem callForm_alike (target : Addr) : AlikeNext k d keep (callForm target s) (callForm target s') :=
  ((((((h.fetchCycle _).setTemp _).fetchCycle _).setOperand _).jsrBack.jsrPushHigh).jsrFinal _ _).next

theorem returnForm_alike : AlikeNext k d keep (returnForm s) (returnForm s') := by
  have h3 := h.dummyPc.pullDummy
  rw [returnForm_eq, returnForm_eq, h3.pulled]
  exact (h3.rtsLow.rtsHigh _).rtsFinal.next

theorem breakForm_alike (hp : Blind k (packP true)) : AlikeNext k d keep (breakForm s) (breakForm s') :=
  (h.brkSkip.pushAndVector irqVector hp).next

end Forms

/-! ### The instructions -/

/-- D may change under `k` around this mnemonic: `k` does not change it, or the mnemonic neither pushes D nor writes it
(R32). -/
def Spares (k : Bool → Bool) (mn : Mnemonic) : Prop := k = id ∨ mn ∉ [.php, .brk, .cld, .sed, .plp, .rti]

section Instructions

variable {k : Bool → Bool} {mn : Mnemonic} (hk : Spares k mn)

include hk

/-- The mnemonics that push or write D have `k = id`. -/
theorem Spares.eq_id (hmem : mn ∈ [.php, .brk, .cld, .sed, .plp, .rti]) : k = id := hk.resolve_right (absurd hmem)

theorem inert_applyOf {ap : Apply} (ha : applyOf mn = some ap) (m : Byte) : Inert k (ap m) := by
  cases mn with
  | plp =>
    obtain rfl := hk.eq_id (by decide)
    exact fun _ => rfl
  | _ => cases ha <;> exact fun _ => rfl

theorem inert_execOf {f : RegisterFile → RegisterFile} (ha : execOf mn = some f) : Inert k f := by
  cases mn with
  | cld | sed =>
    obtain rfl := hk.eq_id (by decide)
    exact fun _ => rfl
  | _ => cases ha <;> exact fun _ => rfl

theorem blind_storeOf {value : RegisterFile → Byte} (ha : storeOf mn = some value) : Blind k value := by
  cases mn with
  | php =>
    obtain rfl := hk.eq_id (by decide)
    exact fun _ => rfl
  | _ => cases ha <;> exact fun _ => rfl

end Instructions

section Exec

variable {k : Bool → Bool} {d : DummyBus} {keep : Prop} {s s' : State} {i : Instr} (h : Alike k d keep s s')
  (hk : Spares k i.mnemonic)

include h hk

theorem exec_other_alike (hkind : kindOf i.mnemonic = .other) : AlikeNext k d keep (exec i s) (exec i s') := by
  obtain ⟨-, f, ha⟩ | ⟨-, cond, ha⟩ | ⟨-, value, ha⟩ | ⟨-, ap, ha⟩ | ⟨a, rfl⟩ | ⟨a, rfl⟩ | ⟨a, rfl⟩ | rfl | rfl | rfl :=
    other_cases hkind
  · rw [exec_implied s ha, exec_implied s' ha]
    exact implied_alike (h.decodeClock _ _) (inert_execOf hk ha)
  · obtain ⟨offset, ho, hx⟩ := exec_branch s ha
    obtain ⟨offset', ho', hx'⟩ := exec_branch s' ha
    obtain rfl : offset' = offset := List.singleton_inj.mp (ho'.symm.trans ho)
    rw [hx, hx']
    exact branch_alike (h.decodeClock _ _) ha offset'
  · rw [exec_push s hkind ha, exec_push s' hkind ha]
    exact pushForm_alike (h.decodeClock _ _) (blind_storeOf hk ha)
  · rw [exec_pull s hkind ha, exec_pull s' hkind ha]
    exact pullForm_alike (h.decodeClock _ _) (inert_applyOf hk ha)
  · exact jumpAbs_alike (h.decodeClock _ _) a
  · exact jumpInd_alike (h.decodeClock _ _) a
  · exact callForm_alike (h.decodeClock _ _) a
  · exact returnForm_alike (h.decodeClock _ _)
  · obtain rfl := hk.eq_id (by decide)
    exact breakForm_alike (h.decodeClock _ _) fun _ => rfl
  · obtain rfl := hk.eq_id (by decide)
    exact ((h.decodeClock _ _).returnFromInterrupt fun _ _ => rfl).next

/-- An instruction ends in two states alike from two states alike. -/
theorem exec_alike : AlikeNext k d keep (exec i s) (exec i s') := by
  cases hkind : kindOf i.mnemonic with
  | read =>
    obtain ⟨f, ap, hf, ha⟩ := formOf_read hkind
    rw [exec_read s hkind ha hf, exec_read s' hkind ha hf]
    exact readForm_alike (h.decodeClock _ _) (inert_applyOf hk ha) f
  | write =>
    obtain ⟨f, value, hf, ha⟩ := formOf_write hkind
    rw [exec_write s hkind ha hf, exec_write s' hkind ha hf]
    exact writeForm_alike (h.decodeClock _ _) (blind_storeOf hk ha) f
  | modify =>
    obtain ⟨hform, modify, ha⟩ := formOf_modify hkind
    rcases hform with hm | ⟨f, hf⟩
    · rw [exec_accumulator s ha hm, exec_accumulator s' ha hm]
      exact modifyAcc_alike (h.decodeClock _ _) modify
    · rw [exec_modify s ha hf, exec_modify s' ha hf]
      exact modifyForm_alike (h.decodeClock _ _) modify f
  | other => exact exec_other_alike h hk hkind

end Exec

/-! ### The obligations -/

/-- Settles O55: the two states are alike with one `DUMMY_BUS` and one record, so the states they end in are too. -/
theorem decimalFlagIsInert : Obligations.DecimalFlagIsInert := by
  intro i s t d hi ht
  have hstart : Alike (fun _ => d) s.config.dummyBus True s { s with regs := { s.regs with d := d } } :=
    ⟨s.bus.trace, rfl, fun _ => ⟨rfl, rfl⟩⟩
  obtain ⟨u, u', hu, hu', tr, rfl, hkeep⟩ := exec_alike hstart (i := i) (.inr hi)
  obtain rfl : u = t := Host.Outcome.next.inj (hu.symm.trans ht)
  obtain ⟨rfl, hdummy⟩ := hkeep trivial
  rw [hu', hdummy]
  rfl

/-- A step from two Idle states that differ in `DUMMY_BUS` and the record alone: both are stalled, take the same
interrupt, or run the same instruction. -/
theorem step_alike {d : DummyBus} {tr : List Access} {s t : State} (hp : s.seq.phase = .idle) (ht : step s = .next t) :
    AlikeNext id d False (step s) (step (varied id d tr s)) := by
  have h : Alike id d False s (varied id d tr s) := ⟨tr, rfl, False.elim⟩
  cases hh : s.halted with
  | some f => simp [step_halted hh] at ht
  | none =>
  by_cases hs : s.stallCycles = 0
  case neg =>
    rw [step_stalled hh hs, step_stalled (s := varied id d tr s) hh hs]
    exact (h.of_op (op := stalledClock) (fun tr => ⟨tr, rfl, id⟩) rfl).next
  cases hn : s.latches.nmiPending
  case true =>
    rw [step_nmi hh hs hp hn, step_nmi (s := varied id d tr s) hh hs hp hn]
    have htaken : Alike id d False { s with latches := { s.latches with nmiPending := false } }
        { varied id d tr s with latches := { s.latches with nmiPending := false } } := ⟨tr, rfl, False.elim⟩
    exact (htaken.interruptSequence .nmiSeq nmiVector fun _ => rfl).next
  cases hi : s.irqIn && !s.regs.i
  case true =>
    rw [step_irq hh hs hp hn hi, step_irq (s := varied id d tr s) hh hs hp hn hi]
    exact (h.interruptSequence .irqSeq irqVector fun _ => rfl).next
  have hr : Ready s := ⟨hh, hs, hp, hn, hi⟩
  have hfetch : fetchInstr (varied id d tr s) = fetchInstr s := rfl
  rw [step_fetch hr] at ht ⊢
  rw [step_fetch (s := varied id d tr s) hr, hfetch]
  cases hf : fetchInstr s with
  | ok i => exact exec_alike h (.inl rfl)
  | error f => simp [hf] at ht

/-- Settles O50: the two states are alike with D the same, and so are the next states. -/
theorem dummyAccessesChangeOnlyTheRecord : Obligations.DummyAccessesChangeOnlyTheRecord := by
  intro s t d tr hp ht
  obtain ⟨u, u', hu, hu', tr', rfl, -⟩ := step_alike (d := d) (tr := tr) hp ht
  obtain rfl : u = t := Host.Outcome.next.inj (hu.symm.trans ht)
  exact ⟨tr', hu'⟩

end Sys2Proof.Machine
end
